-- ==== Sys2Proof/Word.lean ====
section
/-! DEFINITION. The word types of the block (00_scope.md R7, R12): bytes, register addresses, the 48-bit command
word, the 32-bit operand and response words. Rationals (R8) and unbounded integers are the library's own. -/

namespace Sys2Proof

/-- A data byte, `DATAW = 8` (00_scope.md R7). -/
abbrev Byte := BitVec 8

/-- A register address of the chip, `REGW = 8` (00_scope.md R7, 20_memory.md R31). -/
abbrev RegAddr := BitVec 8

/-- A command word, `CMDW = 48` (30_encoding.md R55). -/
abbrev CmdWord := BitVec 48

/-- The numeric operand field, `OPW = 32` (30_encoding.md R57). -/
abbrev OpdWord := BitVec 32

/-- A response word (30_encoding.md R63). -/
abbrev RspWord := BitVec 32

/-- A bus number, `BUSW = 8` (00_scope.md R7). -/
abbrev BusNumber := BitVec 8

/-- A device address, `ADDRW = 16` (00_scope.md R7). -/
abbrev DevAddress := BitVec 16

/-- A step number 0..4096, 13 bits (00_scope.md R12, 90_conflicts.md C5). -/
abbrev StepNum := BitVec 13

end Sys2Proof
end

