-- ==== Sys2Proof/Syntax.lean ====
section
/-! DEFINITION. The abstract command set (30_encoding.md R53, R54): one constructor per row of spec/opcode_table.json. -/

namespace Sys2Proof

/-- The channel operand (30_encoding.md R54). -/
inductive Channel where
  /-- `Single(c)`, channels 0 to 15 -/
  | single (c : Fin 16)
  /-- `All`, the broadcast sentinel, the source's integer -1 -/
  | all
  /-- `OutOfRange(n)`, any other integer the operand could hold -/
  | outOfRange (n : Int)
  deriving DecidableEq, Repr

/-- The six commands (30_encoding.md R53). Numeric operands are exact rationals (00_scope.md R8). -/
inductive Instr where
  /-- INIT, `initialize(bus, address)` -/
  | init (bus : BusNumber) (address : DevAddress)
  /-- SETFREQ, `setFrequency(hz)` -/
  | setfreq (hz : Rat)
  /-- GETFREQ, `getFrequency()` -/
  | getfreq
  /-- SETDUTY, `setDutyCycle(channel, percent)` -/
  | setduty (channel : Channel) (percent : Rat)
  /-- SETPW, `setPulseWidth(channel, widthUs)` -/
  | setpw (channel : Channel) (widthUs : Rat)
  /-- CLOSE, `close()` -/
  | close
  deriving DecidableEq, Repr

/-- The six command names, as the columns of the lifecycle table (60_exceptions.md R139) and the rows of the opcode
table (30_encoding.md R71) name them. -/
inductive Cmd where
  | INIT
  | SETFREQ
  | GETFREQ
  | SETDUTY
  | SETPW
  | CLOSE
  deriving DecidableEq, Repr

/-- Which command an instruction is. -/
def Instr.cmd : Instr → Cmd
  | .init _ _ => .INIT
  | .setfreq _ => .SETFREQ
  | .getfreq => .GETFREQ
  | .setduty _ _ => .SETDUTY
  | .setpw _ _ => .SETPW
  | .close => .CLOSE

end Sys2Proof
end

