-- ==== Sys2Proof/WellFormed.lean ====
section
/-! DEFINITION. Which terms are commands the 48-bit word can carry: the variant rule of channels (30_encoding.md R54) and
the operand ranges of the word format (R57, R58). The meanings themselves take every rational (00_scope.md R8). -/

namespace Sys2Proof

/-- 30_encoding.md R54: `OutOfRange(n)` only for "n an integer not in 0..15 and not -1". -/
def Channel.legal : Channel → Bool
  | .single _ => true
  | .all => true
  | .outOfRange n => decide (n < -1 ∨ 15 < n)

/-- 30_encoding.md R58: the channel code is an 8-bit two's-complement integer. -/
def Channel.representable : Channel → Bool
  | .single _ => true
  | .all => true
  | .outOfRange n => decide (-128 ≤ n ∧ n ≤ 127)

/-- 30_encoding.md R57: a multiple of 1/4096 from -524288 to 524287 + 4095/4096. -/
def fixedRepresentable (x : Rat) : Bool :=
  decide ((x * 4096).den = 1) && decide (-2147483648 ≤ (x * 4096).num) && decide ((x * 4096).num ≤ 2147483647)

/-- A term that is a command of R53 with a representable operand (30_encoding.md R71: such a command "has exactly one
word"). INIT's operands have the widths of the word's fields (R59), so nothing is left to check there. -/
def Instr.wellFormed : Instr → Bool
  | .init _ _ => true
  | .setfreq hz => fixedRepresentable hz
  | .getfreq => true
  | .setduty ch x => ch.legal && ch.representable && fixedRepresentable x
  | .setpw ch x => ch.legal && ch.representable && fixedRepresentable x
  | .close => true

end Sys2Proof
end

