-- ==== Sys2Proof/Decode.lean ====
section
/-! DEFINITION. The 48-bit command word (30_encoding.md R55 to R61, R71): the decoder, total on all words and rejecting by
name, the encoder, the mask and match rows of the opcode table, and the textual form of a command (R69). -/

namespace Sys2Proof

/-- Why a word is illegal (30_encoding.md R60). -/
inductive Illegal where
  /-- (a) `op` is 0x00 or 0x07..0xFF -/
  | opcode
  /-- (b) `aux != 0` in SETFREQ, GETFREQ or CLOSE -/
  | auxNonzero
  /-- (c) `opd != 0` in GETFREQ or CLOSE -/
  | opdNonzero
  /-- (d) `opd[31:16] != 0` in INIT -/
  | addressHigh
  deriving DecidableEq, Repr

/-- `op`, bits 47:40 (30_encoding.md R55). -/
def opField (w : CmdWord) : BitVec 8 := w.extractLsb' 40 8
/-- `aux`, bits 39:32 (R55). -/
def auxField (w : CmdWord) : BitVec 8 := w.extractLsb' 32 8
/-- `opd`, bits 31:0 (R55). -/
def opdField (w : CmdWord) : OpdWord := w.extractLsb' 0 32

/-- The value of a numeric operand: `sext_32(opd) / 4096` (30_encoding.md R57). -/
def decodeFixed (opd : OpdWord) : Rat := (opd.toInt : Rat) / 4096

/-- The channel of a channel code, `n = sext_8(aux)` (30_encoding.md R58). -/
def decodeChannel (aux : BitVec 8) : Channel :=
  if 0 ≤ aux.toInt ∧ aux.toInt ≤ 15 then .single (Fin.ofNat 16 aux.toInt.toNat)
  else if aux.toInt = -1 then .all
  else .outOfRange aux.toInt

/-- Decoding (30_encoding.md R71): total, the constructor selected by `op`, the illegal words of R60 rejected. -/
def decode (w : CmdWord) : Except Illegal Instr :=
  let aux := auxField w
  let opd := opdField w
  if opField w = 0x01 then
    if opd.extractLsb' 16 16 = 0 then .ok (.init aux (opd.extractLsb' 0 16)) else .error .addressHigh
  else if opField w = 0x02 then
    if aux = 0 then .ok (.setfreq (decodeFixed opd)) else .error .auxNonzero
  else if opField w = 0x03 then
    if aux ≠ 0 then .error .auxNonzero else if opd ≠ 0 then .error .opdNonzero else .ok .getfreq
  else if opField w = 0x04 then .ok (.setduty (decodeChannel aux) (decodeFixed opd))
  else if opField w = 0x05 then .ok (.setpw (decodeChannel aux) (decodeFixed opd))
  else if opField w = 0x06 then
    if aux ≠ 0 then .error .auxNonzero else if opd ≠ 0 then .error .opdNonzero else .ok .close
  else .error .opcode

/-- The word of format C (30_encoding.md R55). -/
def formatC (op aux : BitVec 8) (opd : OpdWord) : CmdWord := op ++ aux ++ opd

/-- The operand field that carries a rational (30_encoding.md R57); exact on the representable ones. -/
def encodeFixed (x : Rat) : OpdWord := BitVec.ofInt 32 (x * 4096).floor

/-- The channel code of a channel (30_encoding.md R58). -/
def encodeChannel : Channel → BitVec 8
  | .single c => BitVec.ofNat 8 c.val
  | .all => 0xFF
  | .outOfRange n => BitVec.ofInt 8 n

/-- The opcode of a command (30_encoding.md R56). -/
def Cmd.opcode : Cmd → BitVec 8
  | .INIT => 0x01
  | .SETFREQ => 0x02
  | .GETFREQ => 0x03
  | .SETDUTY => 0x04
  | .SETPW => 0x05
  | .CLOSE => 0x06

/-- The word of a command (30_encoding.md R55 to R59). -/
def encode : Instr → CmdWord
  | .init bus address => formatC (Cmd.opcode .INIT) bus (address.setWidth 32)
  | .setfreq hz => formatC (Cmd.opcode .SETFREQ) 0 (encodeFixed hz)
  | .getfreq => formatC (Cmd.opcode .GETFREQ) 0 0
  | .setduty ch x => formatC (Cmd.opcode .SETDUTY) (encodeChannel ch) (encodeFixed x)
  | .setpw ch x => formatC (Cmd.opcode .SETPW) (encodeChannel ch) (encodeFixed x)
  | .close => formatC (Cmd.opcode .CLOSE) 0 0

/-- The `mask` column of the opcode table (30_encoding.md R71). -/
def Cmd.mask : Cmd → CmdWord
  | .INIT => 0xFF00FFFF0000
  | .SETFREQ => 0xFFFF00000000
  | .GETFREQ => 0xFFFFFFFFFFFF
  | .SETDUTY => 0xFF0000000000
  | .SETPW => 0xFF0000000000
  | .CLOSE => 0xFFFFFFFFFFFF

/-- The `match` column of the opcode table (30_encoding.md R71). -/
def Cmd.matchBits : Cmd → CmdWord
  | .INIT => 0x010000000000
  | .SETFREQ => 0x020000000000
  | .GETFREQ => 0x030000000000
  | .SETDUTY => 0x040000000000
  | .SETPW => 0x050000000000
  | .CLOSE => 0x060000000000

/-- The word the opcode table numbers: bits above `nbits` are 0 (one 48-bit word, bit 0 least significant). -/
def tableWord (nbits w : Nat) : CmdWord := BitVec.ofNat 48 (w % 2 ^ nbits)

/-- What the decoder reads from a word numbered as spec/opcode_table.json numbers it. -/
def decodeTableWord (nbits w : Nat) : Option Instr :=
  match decode (tableWord nbits w) with
  | .ok i => some i
  | .error _ => none

/-- The mnemonic (30_encoding.md R53). -/
def Cmd.text : Cmd → String
  | .INIT => "INIT"
  | .SETFREQ => "SETFREQ"
  | .GETFREQ => "GETFREQ"
  | .SETDUTY => "SETDUTY"
  | .SETPW => "SETPW"
  | .CLOSE => "CLOSE"

/-- A number as a decimal literal (30_encoding.md R69). Twelve places carry every multiple of 1/4096 exactly; a number they
do not carry is written as a quotient. -/
def decimalText (x : Rat) : String :=
  if (x * 1000000000000).den = 1 then
    let n := (x * 1000000000000).num.natAbs
    let places := (Nat.repr (1000000000000 + n % 1000000000000)).drop 1
    let trimmed := places.dropEndWhile (· == '0')
    (if x < 0 then "-" else "") ++ Nat.repr (n / 1000000000000) ++
      (if trimmed.isEmpty then "" else "." ++ trimmed.toString)
  else toString x.num ++ "/" ++ Nat.repr x.den

/-- The channel operand in a listing: an integer, or the word `ALL` (30_encoding.md R69). -/
def Channel.text : Channel → String
  | .single c => Nat.repr c.val
  | .all => "ALL"
  | .outOfRange n => toString n

/-- The operands of a command in the order R53 and R69 list them. -/
def Instr.operandTexts : Instr → List String
  | .init bus address => [Nat.repr bus.toNat, Nat.repr address.toNat]
  | .setfreq hz => [decimalText hz]
  | .getfreq => []
  | .setduty ch x => [ch.text, decimalText x]
  | .setpw ch x => [ch.text, decimalText x]
  | .close => []

/-- The name of the command in PIP's call syntax (30_encoding.md R53, R69). -/
def Cmd.callName : Cmd → String
  | .INIT => "initialize"
  | .SETFREQ => "setFrequency"
  | .GETFREQ => "getFrequency"
  | .SETDUTY => "setDutyCycle"
  | .SETPW => "setPulseWidth"
  | .CLOSE => "close"

/-- A command in PIP's call syntax (30_encoding.md R69). -/
def Instr.callText (i : Instr) : String :=
  i.cmd.callName ++ "(" ++ String.intercalate ", " i.operandTexts ++ ")"

/-- A command as the spec's listings write it: the mnemonic and the operands in order (30_encoding.md R69). -/
def Instr.text (i : Instr) : String :=
  if i.operandTexts.isEmpty then i.cmd.text else i.cmd.text ++ " " ++ String.intercalate ", " i.operandTexts

end Sys2Proof
end

