-- ==== Sys2Proof/Config.lean ====
section
/-! DEFINITION. What is fixed for one machine: the constants PIP numbers (00_scope.md R5), the record of the
parameters it only names (R6, R7), and the free values, which have no body. -/

namespace Sys2Proof

namespace Config

/-- `OSC_HZ` (00_scope.md R5). -/
def oscHz : Rat := 25000000
/-- `STEPS`, steps per period (R5). -/
def stepsPerPeriod : Rat := 4096
/-- `K = OSC_HZ / STEPS`, the frequency at prescale 0 (R5, 42_frequency.md R81). -/
def baseHz : Rat := oscHz / stepsPerPeriod
/-- `PRE_MIN` (R5). -/
def preMin : Int := 3
/-- `PRE_MAX` (R5). -/
def preMax : Int := 255
/-- `DEFAULT_HZ`, requested by INIT step I7 (R5). -/
def defaultHz : Rat := 50
/-- `T_SETTLE_US`, the least length of a settle delay in microseconds (R5). -/
def settleUs : Nat := 500
/-- `US_PER_S` (R5). -/
def usPerS : Rat := 1000000
/-- `PCT` (R5). -/
def pct : Rat := 100
/-- `CH_STRIDE`, register bytes per channel (R5); it is also `BLOCK_LEN`. -/
def chStride : Nat := 4

end Config

/-- `CH_OOR_POLICY` (00_scope.md R7): what a channel index outside 0..15 other than the sentinel does. -/
inductive OorPolicy where
  | reject
  | broadcast
  deriving DecidableEq, Repr

/-- The parameters the spec names but PIP does not number (00_scope.md R6), and `CH_OOR_POLICY` (R7). -/
structure Params where
  /-- `REG_MODE1` -/
  regMode1 : RegAddr
  /-- `REG_MODE2` -/
  regMode2 : RegAddr
  /-- `REG_PRESCALE` -/
  regPrescale : RegAddr
  /-- `REG_CH_BASE` -/
  regChBase : RegAddr
  /-- `REG_ALL_BASE` -/
  regAllBase : RegAddr
  /-- `M1_AI`, auto-increment -/
  m1Ai : Byte
  /-- `M1_ALLCALL`, respond to all-call -/
  m1AllCall : Byte
  /-- `M1_SLEEP`, the sleep bit -/
  m1Sleep : Byte
  /-- `M1_RESTART`, the restart bit -/
  m1Restart : Byte
  /-- `M2_OCH`, output change on ACK -/
  m2Och : Byte
  /-- `M2_OUTDRV`, totem-pole output driver -/
  m2OutDrv : Byte
  /-- `CH_OOR_POLICY` -/
  chOorPolicy : OorPolicy
  deriving DecidableEq, Repr

/-- The byte has exactly one bit set. -/
def isSingleBit (b : Byte) : Bool :=
  (List.range 8).any fun k => b == BitVec.ofNat 8 (2 ^ k)

/-- The constraints 00_scope.md R6 requires of any instantiation; every state of a run meets them (`Inv.legalParams`). -/
def Params.wf (c : Params) : Bool :=
  isSingleBit c.m1Ai && isSingleBit c.m1AllCall && isSingleBit c.m1Sleep && isSingleBit c.m1Restart &&
  isSingleBit c.m2Och && isSingleBit c.m2OutDrv &&
  decide [c.m1Ai, c.m1AllCall, c.m1Sleep, c.m1Restart].Nodup &&
  c.m2Och != c.m2OutDrv &&
  decide (c.regChBase.toNat + 4 * 15 + 3 ≤ 255)

/-- The defaults of 00_scope.md R6 and R7. PRESUMED (log 3): the chip values are the PCA9685's, which the spec marks
"from general knowledge, not in source"; `reject` is the spec's decision D6. -/
def Params.default : Params where
  regMode1 := 0x00
  regMode2 := 0x01
  regPrescale := 0xFE
  regChBase := 0x06
  regAllBase := 0xFA
  m1Ai := 0x20
  m1AllCall := 0x01
  m1Sleep := 0x10
  m1Restart := 0x80
  m2Och := 0x08
  m2OutDrv := 0x04
  chOorPolicy := .reject

/-- An opaque handle to an open bus connection (10_state.md R15). The number only tells handles apart (log 17). -/
structure Handle where
  id : Nat
  deriving DecidableEq, Repr, Inhabited

/-- One answer of the environment to one transport call (20_memory.md R45). `ok = false` is failure; on success `BusOpen`
takes `handle`, `MemRead` takes `byte`, and a write takes neither. -/
structure Answer where
  ok : Bool
  byte : Byte
  handle : Handle
  deriving DecidableEq, Repr, Inhabited

namespace Config

/-- FREE VALUE (log 2): the answer to the n-th transport call the environment has queued no answer for (20_memory.md R45:
"an unconstrained draw"). -/
opaque freeAnswer : Nat → Answer

/-- FREE VALUE (log 4): what a byte register holding "no value" reads as. -/
opaque noByte : Nat → BitVec 8
/-- FREE VALUE (log 4): what `devAddress` holding "no value" reads as. -/
opaque noAddress : Nat → BitVec 16
/-- FREE VALUE (log 4): what `on` or `off` holding "no value" reads as. -/
opaque noStepNum : Nat → BitVec 13
/-- FREE VALUE (log 4): what `prescale` or `steps` holding "no value" reads as. -/
opaque noInt : Nat → Int
/-- FREE VALUE (log 4): what a rational register holding "no value" reads as. -/
opaque noRat : Nat → Rat

/-- FREE VALUE (log 11): `FREQ_OUT_FMT`, "a function from ℚ to port bits of which the spec assumes nothing" (00_scope.md R7,
92_eei_decisions.md D21). -/
opaque freqOutFmt : Rat → List Bool

end Config

end Sys2Proof
end

