-- ==== Sys2Proof/Machine/State.lean ====
section
/-! DEFINITION. The state of the block (10_state.md R13 to R23, 70_reset_and_hazards.md R142), the ports beside it, and
the reset state. Plain data only. -/

namespace Sys2Proof.Machine

/-- Why the machine stops with a fault. Nothing of the spec stops the block: every error is a response (60_exceptions.md
R118, R126), so there is no constructor and no step faults. Safe: nothing is proved of a run that stopped. -/
inductive Fault
  deriving DecidableEq, Repr

/-- Why an instruction has no meaning. -/
inductive Refusal where
  /-- Raised by an arm of `exec` whose instruction has no meaning yet. Safe: the run stops. No arm raises it. -/
  | notModelled (mnemonic : String)
  deriving DecidableEq, Repr

/-- `life` (10_state.md R14). -/
inductive Life where
  | UNOPENED
  | READY
  | CLOSED
  | FAILED
  deriving DecidableEq, Repr

/-- The steps of SETFREQ (42_frequency.md R86). -/
inductive FreqStep where
  | F1
  | F2
  | F3
  | F4
  | F5
  | F6
  | F7
  deriving DecidableEq, Repr

/-- `phase`, the sequencer position (10_state.md R20). A nested step carries the outer one in its name, as the event table
of 41_initialization.md R79 does ("I7/F1"). Step I5 makes two transport calls and is two positions here (log 6). -/
inductive Phase where
  /-- between commands -/
  | IDLE
  /-- INIT: `BusOpen` -/
  | I1
  /-- INIT: first mode register -/
  | I2
  /-- INIT: second mode register -/
  | I3
  /-- INIT: settle delay -/
  | I4
  /-- INIT: step I5, its read -/
  | I5read
  /-- INIT: step I5, its write -/
  | I5write
  /-- INIT: settle delay -/
  | I6
  /-- INIT: step I7, at a step of the nested SETFREQ -/
  | I7 (f : FreqStep)
  /-- INIT: step I8, at step D1 of the nested SETDUTY -/
  | I8
  /-- a host's SETFREQ -/
  | F (f : FreqStep)
  /-- SETDUTY, also nested in SETPW -/
  | D1
  /-- CLOSE: step X1, at step D1 of the nested SETDUTY -/
  | X1
  /-- CLOSE: `BusClose` -/
  | X2
  deriving DecidableEq, Repr

/-- The kind of a failed call (30_encoding.md R63 field `opk`). -/
inductive OpKind where
  | read
  | write
  | blockwrite
  deriving DecidableEq, Repr

/-- A response (30_encoding.md R62, 60_exceptions.md R118). -/
inductive Response where
  /-- code 0 -/
  | ok
  /-- code 0 with GETFREQ's value -/
  | okValue (frequencyHz : Rat)
  /-- code 1 -/
  | busOpenError
  /-- code 2, with the register address and kind of the failed call -/
  | registerIOError (reg : RegAddr) (op : OpKind)
  /-- code 3 -/
  | driverClosedError
  /-- code 4 -/
  | invalidChannelError
  /-- code 5 -/
  | invalidOperandError
  /-- code 6 -/
  | illegalCommandError
  deriving DecidableEq, Repr

/-- The four bytes of one register block, ascending addresses (30_encoding.md R65). -/
structure Block where
  b0 : Byte
  b1 : Byte
  b2 : Byte
  b3 : Byte
  deriving DecidableEq, Repr

/-- The events of the trace (20_memory.md R46). A result is `none` or `false` for `fail`. `via` is the handle the call
passes to the transport (10_state.md R15, 30_encoding.md R64; log 14). -/
inductive Event where
  | busOpen (bus : BusNumber) (address : DevAddress) (result : Option Handle)
  | read (via : Option Handle) (a : RegAddr) (result : Option Byte)
  | write (via : Option Handle) (a : RegAddr) (v : Byte) (ok : Bool)
  | block (via : Option Handle) (a : RegAddr) (bytes : Block) (ok : Bool)
  | delay (us : Nat)
  | busClose (via : Option Handle)
  deriving DecidableEq, Repr

/-- What the host presents (00_scope.md R10, 70_reset_and_hazards.md R141; log 5). -/
inductive HostInput where
  /-- a command word on the command port -/
  | command (word : CmdWord)
  /-- the reset input, asserted when the machine has made `after` more steps -/
  | reset (after : Nat)
  deriving DecidableEq, Repr

/-- The oracle (20_memory.md R45; log 2): the answers the environment has queued, next first, and how many free answers
have been drawn past them. -/
structure Oracle where
  script : List Answer
  drawn : Nat
  deriving DecidableEq, Repr

/-- The whole state. Registers whose spec value can be "no value" are options (70_reset_and_hazards.md R142; log 4). -/
@[ext]
structure State where
  /-- the parameter record (00_scope.md R6, R7), never written (log 3); an instantiation must satisfy `Params.wf`, which the
  invariant of a run requires -/
  cfg : Params
  /-- R14 -/
  life : Life
  /-- R15 -/
  busHandle : Option Handle
  /-- R16 -/
  busNumber : Option BusNumber
  /-- R16 -/
  devAddress : Option DevAddress
  /-- R17 -/
  frequencyHz : Option Rat
  /-- R18 -/
  pulseWidthUs : Option Rat
  /-- R20 -/
  phase : Phase
  /-- R21 -/
  m : Option Byte
  /-- R22 -/
  prescale : Option Int
  /-- R23 -/
  percent : Option Rat
  /-- R23 -/
  steps : Option Int
  /-- `on`, R23 -/
  onStep : Option StepNum
  /-- `off`, R23 -/
  offStep : Option StepNum
  /-- the block address `a` of 43_duty_cycle.md R102 (log 7) -/
  target : Option RegAddr
  /-- the error of CLOSE step X1 kept for its response, 45_shutdown.md R116 (log 7) -/
  deferred : Option Response
  /-- 60_exceptions.md R135: not running, or running with its lower bound -/
  settleTimer : Option Nat
  /-- the response port: the response not yet delivered (30_encoding.md R62) -/
  rsp : Option Response
  /-- the host's inputs to come -/
  hostIn : List HostInput
  /-- the environment's answers to come -/
  oracle : Oracle
  /-- the events emitted, oldest first (20_memory.md R46) -/
  trace : List Event
  /-- the responses delivered, oldest first (70_reset_and_hazards.md R158) -/
  responses : List Response
  deriving DecidableEq, Repr

/-- The state after reset (70_reset_and_hazards.md R142), at the start of a run (R158): no event, no response, nothing
presented yet, the default parameters. -/
def State.reset : State where
  cfg := Params.default
  life := .UNOPENED
  busHandle := none
  busNumber := none
  devAddress := none
  frequencyHz := none
  pulseWidthUs := none
  phase := .IDLE
  m := none
  prescale := none
  percent := none
  steps := none
  onStep := none
  offStep := none
  target := none
  deferred := none
  settleTimer := none
  rsp := none
  hostIn := []
  oracle := ⟨[], 0⟩
  trace := []
  responses := []

end Sys2Proof.Machine
end

