-- ==== Sys2Proof/Machine/Flags.lean ====
section
/-! DEFINITION. The block has no flag (10_state.md R24); what a command reports is its response word (30_encoding.md R63)
with GETFREQ's value beside it. -/

namespace Sys2Proof.Machine

/-- The `status` field (30_encoding.md R63, 60_exceptions.md R118). -/
def Response.status : Response → BitVec 8
  | .ok => 0
  | .okValue _ => 0
  | .busOpenError => 1
  | .registerIOError _ _ => 2
  | .driverClosedError => 3
  | .invalidChannelError => 4
  | .invalidOperandError => 5
  | .illegalCommandError => 6

/-- The code of a call's kind (30_encoding.md R63 field `opk`). -/
def OpKind.code : OpKind → BitVec 8
  | .read => 1
  | .write => 2
  | .blockwrite => 3

/-- The `reg` field: the failed call's address when `status = 2`, else 0. -/
def Response.regField : Response → BitVec 8
  | .registerIOError a _ => a
  | _ => 0

/-- The `opk` field: the failed call's kind when `status = 2`, else 0. -/
def Response.opkField : Response → BitVec 8
  | .registerIOError _ k => k.code
  | _ => 0

/-- The response word `rsp[31:0]` (30_encoding.md R63); bits 7:0 are 0. -/
def Response.word (r : Response) : RspWord := r.status ++ r.regField ++ r.opkField ++ (0 : BitVec 8)

/-- The value that travels beside the word: GETFREQ's exact rational (30_encoding.md R62, R63). -/
def Response.value : Response → Option Rat
  | .okValue f => some f
  | _ => none

/-- The value on a hardware port, in the open format `FREQ_OUT_FMT` (00_scope.md R7; log 11). -/
def Response.portBits (r : Response) : Option (List Bool) := r.value.map Config.freqOutFmt

end Sys2Proof.Machine
end

