-- ==== Sys2Proof/Machine/Operands.lean ====
section
/-! DEFINITION. The arithmetic of PSC and DSC (42_frequency.md, 43_duty_cycle.md, 44_pulse_width.md), exact over the
rationals (00_scope.md R8, R9; 42_frequency.md R96), and the channel addressing (43_duty_cycle.md R101, R104). -/

namespace Sys2Proof.Machine

/-- Round half up (00_scope.md R9): `floor(x + 1/2)`. -/
def rhu (x : Rat) : Int := (x + 1 / 2).floor

/-- `clamp` (00_scope.md R9). -/
def clamp (v lo hi : Int) : Int := if v < lo then lo else if v > hi then hi else v

/-- `prescale_float` (42_frequency.md R82), for `hz ≠ 0`. -/
def prescaleFloat (hz : Rat) : Rat := Config.baseHz / hz - 1

/-- `prescale_raw` (42_frequency.md R82), for `hz ≠ 0`; unbounded and signed. -/
def prescaleRaw (hz : Rat) : Int := rhu (prescaleFloat hz)

/-- `prescale_of` (42_frequency.md R83), for `hz ≠ 0`. -/
def prescaleOf (hz : Rat) : Int := clamp (prescaleRaw hz) Config.preMin Config.preMax

/-- The byte written to `REG_PRESCALE` (30_encoding.md R68). -/
def prescaleByte (p : Int) : Byte := BitVec.ofInt 8 p

/-- `freq_of` (42_frequency.md R85). -/
def freqOf (p : Int) : Rat := Config.baseHz / ((p : Rat) + 1)

/-- `period_us_of` (42_frequency.md R85). -/
def periodUsOf (p : Int) : Rat := Config.usPerS / freqOf p

/-- `steps_of` (43_duty_cycle.md R97); unbounded. -/
def stepsOf (percent : Rat) : Int := rhu (percent * Config.stepsPerPeriod / Config.pct)

/-- `onoff_of` (43_duty_cycle.md R98); the comparisons are on the unbounded count (42_frequency.md R96 (a)). -/
def onOffOf (steps : Int) : StepNum × StepNum :=
  if steps < 0 then (0, 4096) else if steps > 4095 then (4096, 0) else (0, BitVec.ofInt 13 steps)

/-- `block_of` (30_encoding.md R65, 43_duty_cycle.md R100). PRESUMED (log 10): the order of the four bytes. -/
def blockOf (on off : StepNum) : Block where
  b0 := on.extractLsb' 0 8
  b1 := (on.extractLsb' 8 5).setWidth 8
  b2 := off.extractLsb' 0 8
  b3 := (off.extractLsb' 8 5).setWidth 8

/-- `percent_of_width` (44_pulse_width.md R109). -/
def percentOfWidth (widthUs pulseWidthUs : Rat) : Rat := widthUs / pulseWidthUs * Config.pct

/-- `addr_of` (43_duty_cycle.md R101, R104): the first address of the block, or none where the channel is refused. -/
def addrOf (c : Params) : Channel → Option RegAddr
  | .single k => some (c.regChBase + BitVec.ofNat 8 (Config.chStride * k.val))
  | .all => some c.regAllBase
  | .outOfRange _ =>
    match c.chOorPolicy with
    | .broadcast => some c.regAllBase
    | .reject => none

/-- The four bytes a duty percentage is written as (43_duty_cycle.md R97, R98, R100). -/
def dutyBlock (percent : Rat) : Block :=
  blockOf (onOffOf (stepsOf percent)).1 (onOffOf (stepsOf percent)).2

/-- Step I2's byte (30_encoding.md R66, 41_initialization.md R77). -/
def mode1InitByte (c : Params) : Byte := c.m1Ai ||| c.m1AllCall

/-- Step I3's byte (30_encoding.md R67). -/
def mode2InitByte (c : Params) : Byte := c.m2Och ||| c.m2OutDrv

/-- Step I5's byte: the sleep bit cleared (30_encoding.md R66). -/
def wakeByte (c : Params) (r : Byte) : Byte := r &&& ~~~c.m1Sleep

/-- Step F2's byte: the sleep bit forced on (30_encoding.md R66, 42_frequency.md R93). -/
def sleepByte (c : Params) (m : Byte) : Byte := m ||| c.m1Sleep

/-- Step F6's byte: the restart bit additionally set (30_encoding.md R66, 42_frequency.md R94). -/
def restartByte (c : Params) (m : Byte) : Byte := m ||| c.m1Restart

end Sys2Proof.Machine
end

