-- ==== Sys2Proof/Machine/Ops.lean ====
section
/-! DEFINITION. The shared operations: oracle answers, the transport primitives (20_memory.md R32 to R37, R44), the
registers that may hold no value, responding, raising an error (60_exceptions.md R126, R127), the lifecycle table (R139),
delivering a response (R134) and reset (70_reset_and_hazards.md R141). -/

namespace Sys2Proof.Machine

/-! ### The oracle (20_memory.md R45; log 2) -/

/-- The answer the k-th transport call from now will get: the queued one, or a free one past the queue. -/
def Oracle.peek (o : Oracle) (k : Nat) : Answer :=
  match o.script[k]? with
  | some a => a
  | none => Config.freeAnswer (o.drawn + (k - o.script.length))

/-- The oracle after n more transport calls. -/
def Oracle.skip (o : Oracle) (n : Nat) : Oracle :=
  ⟨o.script.drop n, o.drawn + (n - o.script.length)⟩

/-- `BusOpen`'s result: a handle, or Error (20_memory.md R33). -/
def answerHandle (a : Answer) : Option Handle := if a.ok then some a.handle else none

/-- `MemRead`'s result: a byte, or Error (20_memory.md R35). -/
def answerByte (a : Answer) : Option Byte := if a.ok then some a.byte else none

/-! ### Registers that may hold "no value" (log 4) -/

/-- `x[busNumber]` -/
def State.readBusNumber (s : State) : BusNumber := s.busNumber.getD (Config.noByte s.oracle.drawn)
/-- `x[devAddress]` -/
def State.readDevAddress (s : State) : DevAddress := s.devAddress.getD (Config.noAddress s.oracle.drawn)
/-- `x[frequencyHz]` -/
def State.readFrequencyHz (s : State) : Rat := s.frequencyHz.getD (Config.noRat s.oracle.drawn)
/-- `x[pulseWidthUs]` -/
def State.readPulseWidthUs (s : State) : Rat := s.pulseWidthUs.getD (Config.noRat s.oracle.drawn)
/-- `m` -/
def State.readM (s : State) : Byte := s.m.getD (Config.noByte s.oracle.drawn)
/-- `prescale` -/
def State.readPrescale (s : State) : Int := s.prescale.getD (Config.noInt s.oracle.drawn)
/-- `on` -/
def State.readOn (s : State) : StepNum := s.onStep.getD (Config.noStepNum s.oracle.drawn)
/-- `off` -/
def State.readOff (s : State) : StepNum := s.offStep.getD (Config.noStepNum s.oracle.drawn)
/-- `a` of 43_duty_cycle.md R102 -/
def State.readTarget (s : State) : RegAddr := s.target.getD (Config.noByte s.oracle.drawn)

/-! ### The transport port -/

/-- One event is emitted (20_memory.md R46). -/
def State.emit (s : State) (e : Event) : State := { s with trace := s.trace ++ [e] }

/-- One answer of the oracle is used. -/
def State.draw (s : State) : State := { s with oracle := s.oracle.skip 1 }

/-- The answer the next transport call gets. -/
def State.answer (s : State) : Answer := s.oracle.peek 0

/-- `BusOpen(bus, address)` (20_memory.md R33). -/
def busOpen (s : State) (bus : BusNumber) (address : DevAddress) : Option Handle × State :=
  (answerHandle s.answer, s.draw.emit (.busOpen bus address (answerHandle s.answer)))

/-- `MemRead(a, 1)` (20_memory.md R35). -/
def memRead (s : State) (a : RegAddr) : Option Byte × State :=
  (answerByte s.answer, s.draw.emit (.read s.busHandle a (answerByte s.answer)))

/-- `MemWrite(a, 1, v)` (20_memory.md R36). -/
def memWrite (s : State) (a : RegAddr) (v : Byte) : Bool × State :=
  (s.answer.ok, s.draw.emit (.write s.busHandle a v s.answer.ok))

/-- `MemWrite(a, 4, [b0, b1, b2, b3])` (20_memory.md R37). -/
def memWriteBlock (s : State) (a : RegAddr) (b : Block) : Bool × State :=
  (s.answer.ok, s.draw.emit (.block s.busHandle a b s.answer.ok))

/-- `BusClose()` and `x[busHandle] <- none` (20_memory.md R34): no result, it cannot fail, no answer is drawn. -/
def busClose (s : State) : State := { s.emit (.busClose s.busHandle) with busHandle := none }

/-! ### Ending a command -/

/-- SETFREQ's transients hold nothing any more (10_state.md R21, R22; log 7). -/
def State.clearFreq (s : State) : State := { s with m := none, prescale := none }

/-- SETDUTY's transients hold nothing any more (10_state.md R23; log 7). -/
def State.clearDuty (s : State) : State :=
  { s with percent := none, steps := none, onStep := none, offStep := none, target := none }

/-- The sequencer goes to a step (10_state.md R20). -/
def goTo (p : Phase) (s : State) : State := { s with phase := p }

/-- `respond r` by a command that never left IDLE: only the response port changes (60_exceptions.md R139). -/
def respond (s : State) (r : Response) : State := { s with rsp := some r }

/-- The command in progress ends: `phase <- IDLE`, the transients hold no value, the response is presented (60_exceptions.md
R126 (3), (4); 10_state.md R13). -/
def finish (s : State) (r : Response) : State :=
  { s.clearFreq.clearDuty with deferred := none, settleTimer := none, phase := .IDLE, rsp := some r }

/-- The step belongs to INIT (10_state.md R20), nested steps included. -/
def Phase.inInit : Phase → Bool
  | .I1 | .I2 | .I3 | .I4 | .I5read | .I5write | .I6 | .I7 _ | .I8 => true
  | .IDLE | .F _ | .D1 | .X1 | .X2 => false

/-- `raise e` at the step `phase` (60_exceptions.md R126, R127): the one operation by which a transport error ends a command.
INIT leaves `life = FAILED` (41_initialization.md R78); CLOSE goes on to step X2 and reports the error there (45_shutdown.md
R116); any other command leaves the state as it is (R87, R103). -/
def raise (s : State) (e : Response) : State :=
  if s.phase.inInit then finish { s with life := .FAILED } e
  else if s.phase = .X1 then goTo .X2 { s.clearDuty with deferred := some e }
  else finish s e

/-! ### One sequencer step of each shape -/

/-- A step that writes one byte: on success the sequencer goes on by `after`. -/
def writeStep (s : State) (a : RegAddr) (v : Byte) (after : State → State) : State :=
  let r := memWrite s a v
  if r.1 then after r.2 else raise r.2 (.registerIOError a .write)

/-- A step that reads `REG_MODE1` into `m` (20_memory.md R35, 10_state.md R21). -/
def readModeStep (s : State) (next : Phase) : State :=
  let r := memRead s s.cfg.regMode1
  match r.1 with
  | some b => goTo next { r.2 with m := some b }
  | none => raise r.2 (.registerIOError s.cfg.regMode1 .read)

/-- A settle delay (20_memory.md R44, 60_exceptions.md R135; log 9): the first step starts the timer and emits the event, the
second is the end of the wait. -/
def delayStep (s : State) (after : State → State) : State :=
  match s.settleTimer with
  | none => { s.emit (.delay Config.settleUs) with settleTimer := some Config.settleUs }
  | some _ => after { s with settleTimer := none }

/-! ### The command port -/

/-- The response a command gets from the lifecycle check, none for `run` (60_exceptions.md R139). -/
def lifecycle (l : Life) (c : Cmd) : Option Response :=
  match l, c with
  | .UNOPENED, .INIT => none
  | .UNOPENED, .SETFREQ => some .illegalCommandError
  | .UNOPENED, .GETFREQ => some .illegalCommandError
  | .UNOPENED, .SETDUTY => some .illegalCommandError
  | .UNOPENED, .SETPW => some .illegalCommandError
  | .UNOPENED, .CLOSE => some .illegalCommandError
  | .READY, .INIT => some .illegalCommandError
  | .READY, .SETFREQ => none
  | .READY, .GETFREQ => none
  | .READY, .SETDUTY => none
  | .READY, .SETPW => none
  | .READY, .CLOSE => none
  | .CLOSED, .INIT => some .driverClosedError
  | .CLOSED, .SETFREQ => some .driverClosedError
  | .CLOSED, .GETFREQ => some .driverClosedError
  | .CLOSED, .SETDUTY => some .driverClosedError
  | .CLOSED, .SETPW => some .driverClosedError
  | .CLOSED, .CLOSE => some .ok
  | .FAILED, .INIT => some .illegalCommandError
  | .FAILED, .SETFREQ => some .illegalCommandError
  | .FAILED, .GETFREQ => some .illegalCommandError
  | .FAILED, .SETDUTY => some .illegalCommandError
  | .FAILED, .SETPW => some .illegalCommandError
  | .FAILED, .CLOSE => some .illegalCommandError

/-- The command port accepts a command: `phase = IDLE` and the previous response delivered (60_exceptions.md R134). -/
def State.accepts (s : State) : Bool := decide (s.phase = .IDLE) && s.rsp.isNone

/-- The host takes the response (60_exceptions.md R134; log 8). -/
def deliver (s : State) (r : Response) : State := { s with rsp := none, responses := s.responses ++ [r] }

/-- The reset input (70_reset_and_hazards.md R141): every item of R142 at its reset value, no event, no response. What lies
outside the block stays: the parameters, the inputs to come, the trace and the delivered responses (log 5). -/
def applyReset (s : State) : State :=
  { State.reset with
    cfg := s.cfg, hostIn := s.hostIn, oracle := s.oracle, trace := s.trace, responses := s.responses }

end Sys2Proof.Machine
end

