-- ==== Sys2Proof/Machine/Duty.lean ====
section
/-! DEFINITION. SETDUTY's conversion and its one step D1 (43_duty_cycle.md R102), shared by SETDUTY, SETPW, INIT step I8
and CLOSE step X1 (30_encoding.md R70). -/

namespace Sys2Proof.Machine

/-- Entering SETDUTY with the block address `a`: steps, on and off are computed before step D1 (43_duty_cycle.md R102). -/
def enterDuty (p : Phase) (a : RegAddr) (percent : Rat) (s : State) : State :=
  goTo p { s with
    percent := some percent
    steps := some (stepsOf percent)
    onStep := some (onOffOf (stepsOf percent)).1
    offStep := some (onOffOf (stepsOf percent)).2
    target := some a }

/-- Step D1: one block write (43_duty_cycle.md R102); `done` is what follows its success. -/
def dutyStep (done : State → State) (s : State) : State :=
  let r := memWriteBlock s s.readTarget (blockOf s.readOn s.readOff)
  if r.1 then done r.2.clearDuty else raise r.2 (.registerIOError s.readTarget .blockwrite)

end Sys2Proof.Machine
end

