-- ==== Sys2Proof/Machine/Frequency.lean ====
section
/-! DEFINITION. SETFREQ's steps (42_frequency.md R86), shared by the host's SETFREQ and INIT step I7 (30_encoding.md R70). -/

namespace Sys2Proof.Machine

/-- Entering SETFREQ: the prescale is computed before step F1 (42_frequency.md R86, R95). -/
def enterFreq (wrap : FreqStep → Phase) (hz : Rat) (s : State) : State :=
  goTo (wrap .F1) { s with prescale := some (prescaleOf hz) }

/-- One step of SETFREQ (42_frequency.md R86); `wrap` names the position, `done` is what follows step F7. -/
def freqStep (wrap : FreqStep → Phase) (done : State → State) (f : FreqStep) (s : State) : State :=
  match f with
  | .F1 => readModeStep s (wrap .F2)
  | .F2 => writeStep s s.cfg.regMode1 (sleepByte s.cfg s.readM) (goTo (wrap .F3))
  | .F3 => writeStep s s.cfg.regPrescale (prescaleByte s.readPrescale) (goTo (wrap .F4))
  | .F4 => writeStep s s.cfg.regMode1 s.readM (goTo (wrap .F5))
  | .F5 => delayStep s (goTo (wrap .F6))
  | .F6 => writeStep s s.cfg.regMode1 (restartByte s.cfg s.readM) (goTo (wrap .F7))
  | .F7 =>
    done ({ s with
      frequencyHz := some (freqOf s.readPrescale)
      pulseWidthUs := some (periodUsOf s.readPrescale) } : State).clearFreq

end Sys2Proof.Machine
end

