-- ==== Sys2Proof/Machine/Sequencer.lean ====
section
/-! DEFINITION. SEQ: one step of the sequencer at each position (10_state.md R20; 41_initialization.md R76, 42_frequency.md
R86, 43_duty_cycle.md R102, 45_shutdown.md R114), and a command run to its response. -/

namespace Sys2Proof.Machine

/-- Step I1: `BusOpen(busNumber, devAddress)` (41_initialization.md R76). -/
def openStep (s : State) : State :=
  let r := busOpen s s.readBusNumber s.readDevAddress
  match r.1 with
  | some h => goTo .I2 { r.2 with busHandle := some h }
  | none => raise r.2 .busOpenError

/-- Entering INIT step I8: SETDUTY(All, 0) (41_initialization.md R76). -/
def enterI8 (s : State) : State := enterDuty .I8 s.cfg.regAllBase 0 s

/-- The end of INIT: `x[life] <- READY ; respond OK` (41_initialization.md R76). -/
def finishInit (s : State) : State := finish { s with life := .READY } .ok

/-- Step X2: the handle is released whatever became of X1, and the response is OK or X1's error (45_shutdown.md R114, R116). -/
def closeStep (s : State) : State :=
  finish { busClose s with life := .CLOSED } (s.deferred.getD .ok)

/-- One step of the sequencer: at most one transport call, or the start or the end of a delay (10_state.md R20). -/
def seqStep (s : State) : State :=
  match s.phase with
  | .IDLE => s
  | .I1 => openStep s
  | .I2 => writeStep s s.cfg.regMode1 (mode1InitByte s.cfg) (goTo .I3)
  | .I3 => writeStep s s.cfg.regMode2 (mode2InitByte s.cfg) (goTo .I4)
  | .I4 => delayStep s (goTo .I5read)
  | .I5read => readModeStep s .I5write
  | .I5write => writeStep s s.cfg.regMode1 (wakeByte s.cfg s.readM) fun s => goTo .I6 s.clearFreq
  | .I6 => delayStep s (enterFreq .I7 Config.defaultHz)
  | .I7 f => freqStep .I7 enterI8 f s
  | .I8 => dutyStep finishInit s
  | .F f => freqStep .F (finish · .ok) f s
  | .D1 => dutyStep (finish · .ok) s
  | .X1 => dutyStep (goTo .X2) s
  | .X2 => closeStep s

/-- `n` steps of the sequencer; in IDLE nothing more happens. -/
def seqSteps : Nat → State → State
  | 0, s => s
  | n + 1, s => seqSteps n (seqStep s)

/-- No command has more sequencer steps than this: INIT has eighteen (70_reset_and_hazards.md R157). -/
def maxSeqSteps : Nat := 18

/-- A command run to its response: `begin` checks it and enters its first step, and the sequencer goes on until IDLE. A
command that is not accepted has to wait and changes nothing (60_exceptions.md R134; log 15). -/
def runCommand (begin : State → State) (s : State) : State :=
  if s.accepts then seqSteps maxSeqSteps (begin s) else s

end Sys2Proof.Machine
end

