-- ==== Sys2Proof/Machine/Commands.lean ====
section
/-! DEFINITION. The six commands (41_initialization.md R75, 42_frequency.md R86, R90, 43_duty_cycle.md R102,
44_pulse_width.md R110, 45_shutdown.md R114). `beginX` makes the checks of 60_exceptions.md R125 items 2 and 3 in that
order and enters the first step; `execX` is the whole command. -/

namespace Sys2Proof.Machine

/-- INIT (41_initialization.md R75, R76): the operands are latched, then step I1. -/
def beginInit (bus : BusNumber) (address : DevAddress) (s : State) : State :=
  match lifecycle s.life .INIT with
  | some r => respond s r
  | none => goTo .I1 { s with busNumber := some bus, devAddress := some address }

/-- SETFREQ (42_frequency.md R86, R88): `hz = 0` is refused before any transport call. -/
def beginSetfreq (hz : Rat) (s : State) : State :=
  match lifecycle s.life .SETFREQ with
  | some r => respond s r
  | none => if hz = 0 then respond s .invalidOperandError else enterFreq .F hz s

/-- GETFREQ (42_frequency.md R90): it has no sequencer step. -/
def beginGetfreq (s : State) : State :=
  match lifecycle s.life .GETFREQ with
  | some r => respond s r
  | none => respond s (.okValue s.readFrequencyHz)

/-- SETDUTY (43_duty_cycle.md R102, R104). -/
def beginSetduty (ch : Channel) (percent : Rat) (s : State) : State :=
  match lifecycle s.life .SETDUTY with
  | some r => respond s r
  | none =>
    match addrOf s.cfg ch with
    | none => respond s .invalidChannelError
    | some a => enterDuty .D1 a percent s

/-- SETPW (44_pulse_width.md R110): the percentage of the realised period, then SETDUTY. -/
def beginSetpw (ch : Channel) (widthUs : Rat) (s : State) : State :=
  match lifecycle s.life .SETPW with
  | some r => respond s r
  | none =>
    match addrOf s.cfg ch with
    | none => respond s .invalidChannelError
    | some a => enterDuty .D1 a (percentOfWidth widthUs s.readPulseWidthUs) s

/-- CLOSE (45_shutdown.md R114, R115): step X1 is SETDUTY(All, 0). -/
def beginClose (s : State) : State :=
  match lifecycle s.life .CLOSE with
  | some r => respond s r
  | none => enterDuty .X1 s.cfg.regAllBase 0 s

/-- The checks and the entry of any command. -/
def beginCommand (i : Instr) (s : State) : State :=
  match i with
  | .init bus address => beginInit bus address s
  | .setfreq hz => beginSetfreq hz s
  | .getfreq => beginGetfreq s
  | .setduty ch percent => beginSetduty ch percent s
  | .setpw ch widthUs => beginSetpw ch widthUs s
  | .close => beginClose s

/-- INIT, whole (41_initialization.md R75). -/
def execInit (bus : BusNumber) (address : DevAddress) (s : State) : Host.Outcome State Fault Refusal :=
  .next (runCommand (beginInit bus address) s)

/-- SETFREQ, whole (42_frequency.md R86). -/
def execSetfreq (hz : Rat) (s : State) : Host.Outcome State Fault Refusal :=
  .next (runCommand (beginSetfreq hz) s)

/-- GETFREQ, whole (42_frequency.md R90). -/
def execGetfreq (s : State) : Host.Outcome State Fault Refusal :=
  .next (runCommand beginGetfreq s)

/-- SETDUTY, whole (43_duty_cycle.md R102). -/
def execSetduty (ch : Channel) (percent : Rat) (s : State) : Host.Outcome State Fault Refusal :=
  .next (runCommand (beginSetduty ch percent) s)

/-- SETPW, whole (44_pulse_width.md R110). -/
def execSetpw (ch : Channel) (widthUs : Rat) (s : State) : Host.Outcome State Fault Refusal :=
  .next (runCommand (beginSetpw ch widthUs) s)

/-- CLOSE, whole (45_shutdown.md R114). -/
def execClose (s : State) : Host.Outcome State Fault Refusal :=
  .next (runCommand beginClose s)

end Sys2Proof.Machine
end

