-- ==== Sys2Proof/Machine/Dispatch.lean ====
section
/-! DEFINITION. The meaning of each instruction, one arm per constructor of `Instr`. -/

namespace Sys2Proof.Machine

/-- What a command that the command port has accepted does (30_encoding.md R53). -/
def exec (i : Instr) (s : State) : Host.Outcome State Fault Refusal :=
  match i with
  | .init bus address => Sys2Proof.Machine.execInit bus address s
  | .setfreq hz => Sys2Proof.Machine.execSetfreq hz s
  | .getfreq => Sys2Proof.Machine.execGetfreq s
  | .setduty ch percent => Sys2Proof.Machine.execSetduty ch percent s
  | .setpw ch widthUs => Sys2Proof.Machine.execSetpw ch widthUs s
  | .close => Sys2Proof.Machine.execClose s

end Sys2Proof.Machine
end

