-- ==== Sys2Proof/Machine/Ports.lean ====
section
/-! DEFINITION. The command, response and reset ports (00_scope.md R10; 60_exceptions.md R125 item 1, R134;
70_reset_and_hazards.md R141): what a step does with the host's inputs. -/

namespace Sys2Proof.Machine

/-- A reset is the next host input: it may fall inside the command that is accepted now (log 5). -/
def resetAhead : List HostInput → Bool
  | [] => false
  | .reset _ :: _ => true
  | .command _ :: _ => false

/-- A word accepted from the command port: an illegal one is answered at once (30_encoding.md R60; 60_exceptions.md R124,
R125); a command runs whole, or is only begun where a reset may fall inside it (log 1, log 5). -/
def acceptWord (w : CmdWord) (s : State) : Host.Outcome State Fault Refusal :=
  match decode w with
  | .error _ => .next (respond s .illegalCommandError)
  | .ok i => if resetAhead s.hostIn then .next (beginCommand i s) else exec i s

/-- A step in which no reset falls: the command in progress goes on by one sequencer step; in IDLE a pending response is
delivered, else a word is accepted, else the block waits (60_exceptions.md R134; log 8). -/
def portStep (s : State) : Host.Outcome State Fault Refusal :=
  if s.phase = .IDLE then
    match s.rsp with
    | some r => .next (deliver s r)
    | none =>
      match s.hostIn with
      | .command w :: rest => acceptWord w { s with hostIn := rest }
      | .reset _ :: _ => .next s
      | [] => .next s
  else .next (seqStep s)

/-- A step: the reset input if it is due (70_reset_and_hazards.md R141), else one step of the ports. -/
def hostStep (s : State) : Host.Outcome State Fault Refusal :=
  match s.hostIn with
  | .reset 0 :: rest => .next (applyReset { s with hostIn := rest })
  | .reset (n + 1) :: rest => portStep { s with hostIn := .reset n :: rest }
  | .command _ :: _ => portStep s
  | [] => portStep s

/-- The inputs after the resets that stand first. -/
def dropResets : List HostInput → List HostInput
  | .reset _ :: rest => dropResets rest
  | .command w :: rest => .command w :: rest
  | [] => []

/-- The block idle, with its last response taken, and `w` next on the command port. -/
def presentWord (w : CmdWord) (s : State) : State :=
  { s with phase := .IDLE, rsp := none, hostIn := .command w :: dropResets s.hostIn }

end Sys2Proof.Machine
end

