-- ==== Sys2Proof/Machine/RegSpace.lean ====
section
/-! DEFINITION. The chip's register space as the trace has written it (20_memory.md R31, R46; 70_reset_and_hazards.md R158:
"what the trace wrote to them"; log 12). A derived view, not state: the chip is outside the block (10_state.md R25). -/

namespace Sys2Proof.Machine

/-- What the trace says of one register address. -/
inductive RegView where
  /-- no write has gone there -/
  | untouched
  /-- the last write there succeeded with this byte -/
  | wrote (b : Byte)
  /-- the last write there failed (93_implementation_defined.md U8) -/
  | unknown
  deriving DecidableEq, Repr

/-- The byte of a block at an offset (20_memory.md R40). -/
def Block.at (b : Block) (offset : RegAddr) : Byte :=
  if offset = 0 then b.b0 else if offset = 1 then b.b1 else if offset = 2 then b.b2 else b.b3

/-- The address lies in the four-byte block that starts at `base` (20_memory.md R37). -/
def inBlock (base a : RegAddr) : Bool := decide ((a - base).toNat < 4)

/-- What one event makes of the view of address `a`. DESIGN CHOICE (log 12): a block write, the broadcast block's too,
counts at the four addresses it names and at no other. 20_memory.md R38 and R42 say that the broadcast block applies to every
channel; what that makes of the channels' own registers is the chip's, so their view stays what the trace wrote to them. -/
def Event.effect (a : RegAddr) (old : RegView) : Event → RegView
  | .write _ r v ok => if a = r then (if ok then .wrote v else .unknown) else old
  | .block _ r b ok => if inBlock r a then (if ok then .wrote (b.at (a - r)) else .unknown) else old
  | .busOpen _ _ _ => old
  | .read _ _ _ => old
  | .delay _ => old
  | .busClose _ => old

/-- The view of address `a` after a trace. DESIGN CHOICE (log 12): one space for the whole trace. The space of 20_memory.md
R31 is the one chip's that INIT selected, and a run holds one reset (70_reset_and_hazards.md R158) and so one successful open
at most; in a trace that goes on over a reset and a second INIT, whatever bus and address that selects, the view folds the
writes of both into one space. -/
def regView (t : List Event) (a : RegAddr) : RegView := t.foldl (Event.effect a) .untouched

/-- The least time the delays of a trace take, in microseconds (70_reset_and_hazards.md R156). -/
def delayUs : List Event → Nat
  | [] => 0
  | .delay us :: es => us + delayUs es
  | .busOpen _ _ _ :: es => delayUs es
  | .read _ _ _ :: es => delayUs es
  | .write _ _ _ _ :: es => delayUs es
  | .block _ _ _ _ :: es => delayUs es
  | .busClose _ :: es => delayUs es

end Sys2Proof.Machine
end

