-- ==== Sys2Proof/Safety.lean ====
section
/-! DEFINITION. The terms claims are written in: a quiet state, the invariant of every run, the event sequences of the
commands as the spec lists them, and a sequence cut short at a failing call. -/

namespace Sys2Proof.Machine

/-! ### Between commands -/

/-- The block between two commands: idle, no response pending, every transient holding no value (10_state.md R13, R20). It is
what `Inv` says of a state that accepts a command (`Inv.quiet`). -/
structure Quiet (s : State) : Prop where
  phase : s.phase = .IDLE
  rsp : s.rsp = none
  m : s.m = none
  prescale : s.prescale = none
  percent : s.percent = none
  steps : s.steps = none
  onStep : s.onStep = none
  offStep : s.offStep = none
  target : s.target = none
  deferred : s.deferred = none
  settleTimer : s.settleTimer = none

/-- The next `n` transport calls succeed (20_memory.md R45). -/
def AnswersOk (s : State) (n : Nat) : Prop := ∀ k, k < n → (s.oracle.peek k).ok = true

/-- The first `k` of the next transport calls succeed and the one after them fails. -/
def FailsAt (s : State) (k : Nat) : Prop := AnswersOk s k ∧ (s.oracle.peek k).ok = false

/-! ### The invariant -/

/-- The frequency registers hold the two values of one prescale, as 10_state.md R19 writes them. -/
def Programmed (s : State) : Prop :=
  ∃ p : Int, 3 ≤ p ∧ p ≤ 255 ∧ s.frequencyHz = some (390625 / (64 * ((p : Rat) + 1))) ∧
    s.pulseWidthUs = some (4096 * ((p : Rat) + 1) / 25)

/-- The position is a settle delay (60_exceptions.md R135). -/
def Phase.isDelay : Phase → Bool
  | .I4 | .I6 | .I7 .F5 | .F .F5 => true
  | _ => false

/-- The positions at which `m` holds a byte (10_state.md R21). -/
def Phase.holdsM : Phase → Bool
  | .I5write => true
  | .I7 .F1 | .F .F1 => false
  | .I7 _ | .F _ => true
  | _ => false

/-- The positions at which `prescale` holds a value (10_state.md R22). -/
def Phase.holdsPrescale : Phase → Bool
  | .I7 _ | .F _ => true
  | _ => false

/-- The positions at which SETDUTY's transients hold values (10_state.md R23). -/
def Phase.holdsDuty : Phase → Bool
  | .I8 | .D1 | .X1 => true
  | _ => false

/-- SETDUTY's transients are those of one percentage and a block address (43_duty_cycle.md R102). -/
def DutyHeld (s : State) : Prop :=
  ∃ (x : Rat) (a : RegAddr), s.percent = some x ∧ s.steps = some (stepsOf x) ∧
    s.onStep = some (onOffOf (stepsOf x)).1 ∧ s.offStep = some (onOffOf (stepsOf x)).2 ∧ s.target = some a ∧
    (a = s.cfg.regAllBase ∨ ∃ c : Nat, c < 16 ∧ a = s.cfg.regChBase + BitVec.ofNat 8 (4 * c))

/-- What holds in every state of a run (00_scope.md R6; 10_state.md R14, R15, R19, R20 to R23; 60_exceptions.md R134; R142). -/
structure Inv (s : State) : Prop where
  /-- the instantiation meets the constraints a model must require of it (00_scope.md R6; log 3) -/
  legalParams : s.cfg.wf = true
  /-- the two frequency registers are written together (R19) -/
  paired : (s.frequencyHz = none ∧ s.pulseWidthUs = none) ∨ Programmed s
  /-- READY: an open handle and a programmed frequency (R15, R19, R112) -/
  ready : s.life = .READY → s.busHandle ≠ none ∧ Programmed s
  /-- CLOSED: the handle released, the frequency kept (R15, R19, R114) -/
  closed : s.life = .CLOSED → s.busHandle = none ∧ Programmed s
  /-- only INIT runs in UNOPENED (R139) -/
  unopened : s.life = .UNOPENED → s.phase = .IDLE ∨ s.phase.inInit = true
  /-- before step I1 returns there is no handle (R142) -/
  noHandle : s.life = .UNOPENED → s.phase = .IDLE ∨ s.phase = .I1 → s.busHandle = none
  /-- before the first step F7 there is no frequency (R142) -/
  noFrequency : s.life = .UNOPENED → s.phase ≠ .I8 → s.frequencyHz = none ∧ s.pulseWidthUs = none
  /-- INIT leaves UNOPENED only at its end (R76), and has a handle after step I1 -/
  initRuns : s.phase.inInit = true → s.life = .UNOPENED ∧ (s.phase ≠ .I1 → s.busHandle ≠ none)
  /-- step I8 follows step I7 (R76) -/
  afterI7 : s.phase = .I8 → Programmed s
  /-- every other step belongs to a command of READY (R139) -/
  otherRuns : s.phase ≠ .IDLE → s.phase.inInit = false → s.life = .READY
  /-- INIT's operands are latched when it begins (R16, R76) -/
  operands : s.life ≠ .UNOPENED ∨ s.phase ≠ .IDLE → s.busNumber ≠ none ∧ s.devAddress ≠ none
  /-- a response is pending only in IDLE (R62, R134) -/
  response : s.rsp ≠ none → s.phase = .IDLE
  /-- the settle timer runs only in a settle delay (R135) -/
  timer : s.settleTimer = none ∨ s.settleTimer = some 500 ∧ s.phase.isDelay = true
  /-- `m` holds a byte exactly where a later step uses it (R21) -/
  mHeld : s.m.isSome = s.phase.holdsM
  /-- `prescale` is clamped where it holds a value (R22) -/
  prescaleHeld : if s.phase.holdsPrescale then ∃ p, s.prescale = some p ∧ 3 ≤ p ∧ p ≤ 255 else s.prescale = none
  /-- SETDUTY's transients (R23) -/
  dutyHeld : if s.phase.holdsDuty then DutyHeld s
    else s.percent = none ∧ s.steps = none ∧ s.onStep = none ∧ s.offStep = none ∧ s.target = none
  /-- the kept error of step X1 is there only for step X2 (R116) -/
  deferredHeld : s.deferred ≠ none → s.phase = .X2

/-! ### Event sequences -/

/-- SETFREQ's six events on success (42_frequency.md R86), `m` the byte read. -/
def freqEvents (c : Params) (via : Option Handle) (m : Byte) (p : Int) : List Event :=
  [ .read via c.regMode1 (some m),
    .write via c.regMode1 (m ||| c.m1Sleep) true,
    .write via c.regPrescale (BitVec.ofInt 8 p) true,
    .write via c.regMode1 m true,
    .delay 500,
    .write via c.regMode1 (m ||| c.m1Restart) true ]

/-- INIT's fourteen events on success (41_initialization.md R79), `r` and `m` the bytes read. -/
def initEvents (c : Params) (bus : BusNumber) (address : DevAddress) (h : Handle) (r m : Byte) : List Event :=
  [ .busOpen bus address (some h),
    .write (some h) c.regMode1 (c.m1Ai ||| c.m1AllCall) true,
    .write (some h) c.regMode2 (c.m2Och ||| c.m2OutDrv) true,
    .delay 500,
    .read (some h) c.regMode1 (some r),
    .write (some h) c.regMode1 (r &&& ~~~c.m1Sleep) true,
    .delay 500,
    .read (some h) c.regMode1 (some m),
    .write (some h) c.regMode1 (m ||| c.m1Sleep) true,
    .write (some h) c.regPrescale 121 true,
    .write (some h) c.regMode1 m true,
    .delay 500,
    .write (some h) c.regMode1 (m ||| c.m1Restart) true,
    .block (some h) c.regAllBase ⟨0, 0, 0, 0⟩ true ]

/-- The event is a call that can fail (20_memory.md R45). -/
def Event.canFail : Event → Bool
  | .busOpen _ _ _ => true
  | .read _ _ _ => true
  | .write _ _ _ _ => true
  | .block _ _ _ _ => true
  | .delay _ => false
  | .busClose _ => false

/-- The event is a failed call. -/
def Event.failed : Event → Bool
  | .busOpen _ _ r => r.isNone
  | .read _ _ r => r.isNone
  | .write _ _ _ ok => !ok
  | .block _ _ _ ok => !ok
  | .delay _ => false
  | .busClose _ => false

/-- The same call with result `fail`. -/
def Event.asFailed : Event → Event
  | .busOpen bus address _ => .busOpen bus address none
  | .read via a _ => .read via a none
  | .write via a v _ => .write via a v false
  | .block via a b _ => .block via a b false
  | .delay us => .delay us
  | .busClose via => .busClose via

/-- The error a failed call raises (20_memory.md R33 to R37); `ok` for an event that cannot fail. -/
def Event.error : Event → Response
  | .busOpen _ _ _ => .busOpenError
  | .read _ a _ => .registerIOError a .read
  | .write _ a _ _ => .registerIOError a .write
  | .block _ a _ _ => .registerIOError a .blockwrite
  | .delay _ => .ok
  | .busClose _ => .ok

/-- The sequence when call number `k` fails: everything before it, the call as failed, nothing after (60_exceptions.md R126). -/
def cutAt : List Event → Nat → List Event
  | [], _ => []
  | e :: es, k =>
    if e.canFail then
      match k with
      | 0 => [e.asFailed]
      | k + 1 => e :: cutAt es k
    else e :: cutAt es k

/-- The error of call number `k` of a sequence. -/
def errorAt (es : List Event) (k : Nat) : Response :=
  match (es.filter Event.canFail)[k]? with
  | some e => e.error
  | none => .ok

/-- The event is a delay, or a call through the handle `h` (10_state.md R15); opening a bus is neither. -/
def Event.through (h : Option Handle) : Event → Bool
  | .busOpen _ _ _ => false
  | .read via _ _ => decide (via = h)
  | .write via _ _ _ => decide (via = h)
  | .block via _ _ _ => decide (via = h)
  | .delay _ => true
  | .busClose via => decide (via = h)

/-- The event is a one-byte write to register `a`. -/
def Event.writesByte (a : RegAddr) : Event → Bool
  | .write _ r _ _ => decide (r = a)
  | .busOpen _ _ _ => false
  | .read _ _ _ => false
  | .block _ _ _ _ => false
  | .delay _ => false
  | .busClose _ => false

end Sys2Proof.Machine
end

