-- ==== Sys2Proof/Certificates/Slice0/Obligations.lean ====
section
/-! DEFINITION. The statements for the provers. Each docstring names the rule or section of spec/ it formalises. `Quiet s` is
what `Inv` says of a state that accepts a command; that every step keeps `Inv` is `StepKeepsInvariant`. -/

open Sys2Proof Sys2Proof.Machine

/-! ### Encoding (30_encoding.md) -/

/-- Tier 1. Words of 95_test_vectors.md section 5, one or more for each command, decode as that table says. -/
def Obligations.ListedWordsDecode : Prop :=
  decode 0x010100000040 = .ok (.init 1 0x40) ∧
  decode 0x020000032000 = .ok (.setfreq 50) ∧
  decode 0x030000000000 = .ok .getfreq ∧
  decode 0x040300007800 = .ok (.setduty (.single 3) (15 / 2)) ∧
  decode 0x04FE00032000 = .ok (.setduty (.outOfRange (-2)) 50) ∧
  decode 0x05FF005DC000 = .ok (.setpw .all 1500) ∧
  decode 0x060000000000 = .ok .close ∧
  decode 0x010100010040 = .error .addressHigh ∧
  decode 0x070000000000 = .error .opcode

/-- Tier 3. R71: every command with representable operands has a word that decodes to it. -/
def Obligations.DecodeOfEncode : Prop :=
  ∀ i : Instr, i.wellFormed = true → decode (encode i) = .ok i

/-- Tier 3. R71: that word is the only one; what decodes is well-formed. -/
def Obligations.EncodeOfDecode : Prop :=
  ∀ (w : CmdWord) (i : Instr), decode w = .ok i → i.wellFormed = true ∧ encode i = w

/-- Tier 2. R71: a word is a legal encoding of a command exactly when it matches that command's row, and the six rows are
disjoint. -/
def Obligations.LegalExactlyByOpcodeRow : Prop :=
  (∀ (w : CmdWord) (c : Cmd), (∃ i, decode w = .ok i ∧ i.cmd = c) ↔ w &&& c.mask = c.matchBits) ∧
  (∀ (w : CmdWord) (c d : Cmd), w &&& c.mask = c.matchBits → w &&& d.mask = d.matchBits → c = d)

/-- Tier 2. R60: which words are illegal. -/
def Obligations.IllegalExactlyByReservedFields : Prop :=
  ∀ w : CmdWord, (∃ e, decode w = .error e) ↔
    (opField w = 0x00 ∨ 0x07 ≤ (opField w).toNat) ∨
    ((opField w = 0x02 ∨ opField w = 0x03 ∨ opField w = 0x06) ∧ auxField w ≠ 0) ∨
    ((opField w = 0x03 ∨ opField w = 0x06) ∧ opdField w ≠ 0) ∨
    (opField w = 0x01 ∧ (opdField w).toNat / 65536 ≠ 0)

/-- Tier 1. R58: the channel a code stands for. -/
def Obligations.ChannelCodeMeaning : Prop :=
  ∀ aux : BitVec 8,
    (∀ c : Fin 16, aux.toInt = (c.val : Int) → decodeChannel aux = .single c) ∧
    (aux = 0xFF → decodeChannel aux = .all) ∧
    (aux.toInt < -1 ∨ 15 < aux.toInt → decodeChannel aux = .outOfRange aux.toInt)

/-- Tier 2. The integer forms 30_encoding.md R57 gives for the three conversions on word operands; `/` on integers by a
positive divisor is the floor, and for SETFREQ `Int.fdiv` is the floor of the exact quotient also for a negative divisor. -/
def Obligations.WordOperandIntegerForms : Prop :=
  ∀ opd : OpdWord,
    (opd.toInt ≠ 0 →
      prescaleRaw (decodeFixed opd) = Int.fdiv (50000000 - opd.toInt) (2 * opd.toInt)) ∧
    stepsOf (decodeFixed opd) = (opd.toInt + 50) / 100 ∧
    (∀ p : Int, 3 ≤ p → p ≤ 255 →
      stepsOf (percentOfWidth (decodeFixed opd) (4096 * ((p : Rat) + 1) / 25)) =
        (50 * opd.toInt + 4096 * (p + 1)) / (8192 * (p + 1)))

/-! ### Arithmetic (00_scope.md R9, 42_frequency.md, 43_duty_cycle.md, 44_pulse_width.md) -/

/-- Tier 2. R84 (derived by the spec from R82, R83): the interval of requests that gives each prescale, and the clamped
ends. -/
def Obligations.PrescaleIntervals : Prop :=
  (∀ (hz : Rat) (p : Int), hz ≠ 0 → 3 ≤ p → p ≤ 255 →
    (prescaleRaw hz = p ↔ (390625 / 64) / ((p : Rat) + 3 / 2) < hz ∧ hz ≤ (390625 / 64) / ((p : Rat) + 1 / 2))) ∧
  (∀ hz : Rat, hz < 0 → prescaleOf hz = 3 ∧ prescaleRaw hz ≤ -1) ∧
  (∀ hz : Rat, 0 < hz → hz ≤ 390625 / 16416 → prescaleOf hz = 255 ∧ 256 ≤ prescaleRaw hz) ∧
  (∀ hz : Rat, 390625 / 16416 < hz → hz ≤ (390625 / 64) / (511 / 2) → prescaleOf hz = 255 ∧ prescaleRaw hz = 255) ∧
  (∀ (hz : Rat) (p : Int), 4 ≤ p → p ≤ 254 → (390625 / 64) / ((p : Rat) + 3 / 2) < hz →
    hz ≤ (390625 / 64) / ((p : Rat) + 1 / 2) → prescaleOf hz = p ∧ prescaleRaw hz = p) ∧
  (∀ hz : Rat, (390625 / 64) / (9 / 2) < hz → hz ≤ 390625 / 224 → prescaleOf hz = 3 ∧ prescaleRaw hz = 3) ∧
  (∀ hz : Rat, 390625 / 224 < hz → prescaleOf hz = 3 ∧ prescaleRaw hz ≤ 2) ∧
  prescaleRaw (15625 / 32) = 12

/-- Tier 2. R82, R83: the two formulas, and where the unclamped value is not positive. -/
def Obligations.PrescaleFormula : Prop :=
  ∀ hz : Rat, hz ≠ 0 →
    prescaleRaw hz = ((390625 / 64 : Rat) / hz - 1 / 2).floor ∧
    (prescaleRaw hz ≤ 0 ↔ (390625 / 64) / (3 / 2) < hz ∨ hz < 0) ∧ (hz < 0 → prescaleRaw hz ≤ -1) ∧
    prescaleOf hz = (if prescaleRaw hz < 3 then 3 else if prescaleRaw hz > 255 then 255 else prescaleRaw hz)

/-- Tier 2. R91 (derived by the spec from R82, R83, R85): range, monotonicity, nearness of the realised frequency (PIP's
first testable property), the unclamped interval, idempotence on realised values. -/
def Obligations.PrescaleLaws : Prop :=
  (∀ hz : Rat, hz ≠ 0 → 3 ≤ prescaleOf hz ∧ prescaleOf hz ≤ 255) ∧
  (∀ a b : Rat, 0 < a → a ≤ b → prescaleOf b ≤ prescaleOf a) ∧
  (∀ a b : Rat, a < 0 → 0 < b → prescaleOf a = 3 ∧ 3 ≤ prescaleOf b) ∧
  (∀ (hz : Rat) (p : Int), hz ≠ 0 → 3 ≤ p → p ≤ 255 → prescaleRaw hz = p →
    (p : Rat) + 1 / 2 ≤ (390625 / 64) / hz ∧ (390625 / 64) / hz < (p : Rat) + 3 / 2 ∧
    |(390625 / 64) / hz - ((p : Rat) + 1)| ≤ 1 / 2 ∧
    freqOf (p + 1) < (390625 / 64) / ((p : Rat) + 3 / 2) ∧ (390625 / 64) / ((p : Rat) + 3 / 2) < hz ∧
    hz ≤ (390625 / 64) / ((p : Rat) + 1 / 2) ∧ (390625 / 64) / ((p : Rat) + 1 / 2) < freqOf (p - 1) ∧
    freqOf (p + 1) < freqOf p ∧ freqOf p < freqOf (p - 1)) ∧
  (∀ hz : Rat, 24 ≤ hz → hz ≤ 1526 → prescaleOf hz = prescaleRaw hz ∧ 3 ≤ prescaleRaw hz ∧ prescaleRaw hz ≤ 253) ∧
  (prescaleRaw 24 = 253 ∧ prescaleRaw 1526 = 3) ∧
  (∀ p : Int, 3 ≤ p → p ≤ 255 → prescaleOf (freqOf p) = p)

/-- Tier 2. R85: the realised frequency and period in closed form, both strictly monotone. -/
def Obligations.FrequencyAndPeriodOfPrescale : Prop :=
  (∀ p : Int, 3 ≤ p → p ≤ 255 →
    freqOf p = 390625 / (64 * ((p : Rat) + 1)) ∧ periodUsOf p = 4096 * ((p : Rat) + 1) / 25 ∧
    periodUsOf p = 1000000 / freqOf p ∧ periodUsOf p / 4096 = ((p : Rat) + 1) / 25) ∧
  (∀ p q : Int, 3 ≤ p → p < q → q ≤ 255 → freqOf q < freqOf p ∧ periodUsOf p < periodUsOf q)

/-- Tier 2. R99: the ranges of the percentage that give each pair. -/
def Obligations.DutyByRangeOfPercent : Prop :=
  (∀ x : Rat, (stepsOf x < 0 ↔ x < -25 / 2048) ∧ (4095 < stepsOf x ↔ 204775 / 2048 ≤ x)) ∧
  (∀ x : Rat, x < -25 / 2048 → stepsOf x ≤ -1 ∧ onOffOf (stepsOf x) = (0, 4096)) ∧
  (∀ x : Rat, -25 / 2048 ≤ x → x < 25 / 2048 → stepsOf x = 0 ∧ onOffOf (stepsOf x) = (0, 0)) ∧
  (∀ (x : Rat) (n : Nat), 1 ≤ n → n ≤ 4095 → (2 * (n : Rat) - 1) * (25 / 2048) ≤ x →
    x < (2 * (n : Rat) + 1) * (25 / 2048) →
    stepsOf x = (n : Int) ∧ onOffOf (stepsOf x) = (0, BitVec.ofNat 13 n)) ∧
  (∀ x : Rat, 204775 / 2048 ≤ x → 4096 ≤ stepsOf x ∧ onOffOf (stepsOf x) = (4096, 0))

/-- Tier 1. R98: the pair of a step count. -/
def Obligations.OnOffOfStepCount : Prop :=
  ∀ n : Int, (n < 0 → onOffOf n = (0, 4096)) ∧ (4095 < n → onOffOf n = (4096, 0)) ∧
    (0 ≤ n → n ≤ 4095 → (onOffOf n).1 = 0 ∧ ((onOffOf n).2.toNat : Int) = n)

/-- Tier 1. R65: the four bytes of a pair, and the three shapes that occur. The byte order is the spec's decision D14 from
general knowledge (log 10). -/
def Obligations.BlockBytes : Prop :=
  (∀ on off : StepNum,
    (blockOf on off).b0.toNat = on.toNat % 256 ∧ (blockOf on off).b1.toNat = on.toNat / 256 ∧
    (blockOf on off).b2.toNat = off.toNat % 256 ∧ (blockOf on off).b3.toNat = off.toNat / 256) ∧
  (∀ n : Int, 0 ≤ n → n ≤ 4095 →
    blockOf (onOffOf n).1 (onOffOf n).2 = ⟨0, 0, BitVec.ofInt 8 (n % 256), BitVec.ofInt 8 (n / 256)⟩) ∧
  (∀ n : Int, n < 0 → blockOf (onOffOf n).1 (onOffOf n).2 = ⟨0, 0, 0, 0x10⟩) ∧
  (∀ n : Int, 4095 < n → blockOf (onOffOf n).1 (onOffOf n).2 = ⟨0, 0x10, 0, 0⟩)

/-- Tier 2. R111: the step count of a pulse width at prescale `p`, with its three examples. -/
def Obligations.PulseWidthClosedForm : Prop :=
  (∀ (w : Rat) (p : Int), 3 ≤ p → p ≤ 255 →
    stepsOf (percentOfWidth w (periodUsOf p)) = rhu (w * 4096 / periodUsOf p) ∧
    stepsOf (percentOfWidth w (periodUsOf p)) = rhu (25 * w / ((p : Rat) + 1))) ∧
  stepsOf (percentOfWidth 1000 (periodUsOf 121)) = 205 ∧
  stepsOf (percentOfWidth 1500 (periodUsOf 121)) = 307 ∧
  stepsOf (percentOfWidth 2000 (periodUsOf 121)) = 410

/-- Tier 2. The thresholds of R113 (b), (c), (d): full off, full on, and the least width that gives one step. -/
def Obligations.PulseWidthThresholds : Prop :=
  ∀ (w : Rat) (p : Int), 3 ≤ p → p ≤ 255 →
    (w < -((p : Rat) + 1) / 50 ↔ onOffOf (stepsOf (percentOfWidth w (periodUsOf p))) = (0, 4096)) ∧
    (periodUsOf p * (8191 / 8192) ≤ w ↔ onOffOf (stepsOf (percentOfWidth w (periodUsOf p))) = (4096, 0)) ∧
    (((p : Rat) + 1) / 50 ≤ w ↔ 1 ≤ stepsOf (percentOfWidth w (periodUsOf p)))

/-- Tier 1. R66, R93, R94 under the constraints of R6: the sleep bit is cleared or set whatever it was, the restart bit is
set, and every other bit stays. -/
def Obligations.ModeByteBits : Prop :=
  ∀ (c : Params) (b : Byte), c.wf = true →
    wakeByte c b &&& c.m1Sleep = 0 ∧ wakeByte c b &&& ~~~c.m1Sleep = b &&& ~~~c.m1Sleep ∧
    sleepByte c b &&& c.m1Sleep = c.m1Sleep ∧ sleepByte c b &&& ~~~c.m1Sleep = b &&& ~~~c.m1Sleep ∧
    sleepByte c b = (b &&& ~~~c.m1Sleep) ||| c.m1Sleep ∧
    restartByte c b &&& c.m1Restart = c.m1Restart ∧ restartByte c b &&& ~~~c.m1Restart = b &&& ~~~c.m1Restart ∧
    restartByte c b &&& c.m1Sleep = b &&& c.m1Sleep ∧
    mode1InitByte c &&& c.m1Sleep = 0

/-! ### INIT (41_initialization.md) -/

/-- Tier 2. R79: INIT in UNOPENED with every call answered `ok` emits the fourteen events and ends READY at prescale 121;
nothing else of the state changes. -/
def Obligations.InitRunsItsFourteenEvents : Prop :=
  ∀ (s : State) (bus : BusNumber) (address : DevAddress),
    Quiet s → s.life = .UNOPENED → AnswersOk s 11 →
    exec (.init bus address) s = .next { s with
      life := .READY
      busHandle := some (s.oracle.peek 0).handle
      busNumber := some bus
      devAddress := some address
      frequencyHz := some (390625 / 7808)
      pulseWidthUs := some (499712 / 25)
      oracle := s.oracle.skip 11
      trace := s.trace ++
        initEvents s.cfg bus address (s.oracle.peek 0).handle (s.oracle.peek 3).byte (s.oracle.peek 5).byte
      rsp := some .ok }

/-- Tier 2. R78, R119: INIT whose call number `k` (from 0) fails, in a state of a run (where UNOPENED has no handle and no
frequency, `Inv`). The events stop there, the response is that call's error, `life` is FAILED; the operands stay, the handle
stays if step I1 succeeded, the frequency registers are written exactly if step I7 completed. -/
def Obligations.InitFailsPrecisely : Prop :=
  ∀ (s : State) (bus : BusNumber) (address : DevAddress) (k : Nat),
    Quiet s → s.life = .UNOPENED → s.busHandle = none → s.frequencyHz = none → s.pulseWidthUs = none →
    k < 11 → FailsAt s k →
    exec (.init bus address) s = .next { s with
      life := .FAILED
      busHandle := if k = 0 then none else some (s.oracle.peek 0).handle
      busNumber := some bus
      devAddress := some address
      frequencyHz := if k = 10 then some (390625 / 7808) else none
      pulseWidthUs := if k = 10 then some (499712 / 25) else none
      oracle := s.oracle.skip (k + 1)
      trace := s.trace ++ cutAt
        (initEvents s.cfg bus address (s.oracle.peek 0).handle (s.oracle.peek 3).byte (s.oracle.peek 5).byte) k
      rsp := some (errorAt
        (initEvents s.cfg bus address (s.oracle.peek 0).handle (s.oracle.peek 3).byte (s.oracle.peek 5).byte) k) }

/-! ### SETFREQ and GETFREQ (42_frequency.md) -/

/-- Tier 2. R86: SETFREQ in READY with `hz ≠ 0`, of either sign, and every call answered `ok`. -/
def Obligations.SetfreqRunsItsSixEvents : Prop :=
  ∀ (s : State) (hz : Rat), Quiet s → s.life = .READY → hz ≠ 0 → AnswersOk s 5 →
    exec (.setfreq hz) s = .next { s with
      frequencyHz := some (freqOf (prescaleOf hz))
      pulseWidthUs := some (periodUsOf (prescaleOf hz))
      oracle := s.oracle.skip 5
      trace := s.trace ++ freqEvents s.cfg s.busHandle (s.oracle.peek 0).byte (prescaleOf hz)
      rsp := some .ok }

/-- Tier 2. R87: SETFREQ whose call number `k` fails: the error of that call, and no register changed. -/
def Obligations.SetfreqFailsPrecisely : Prop :=
  ∀ (s : State) (hz : Rat) (k : Nat), Quiet s → s.life = .READY → hz ≠ 0 → k < 5 → FailsAt s k →
    exec (.setfreq hz) s = .next { s with
      oracle := s.oracle.skip (k + 1)
      trace := s.trace ++ cutAt (freqEvents s.cfg s.busHandle (s.oracle.peek 0).byte (prescaleOf hz)) k
      rsp := some (errorAt (freqEvents s.cfg s.busHandle (s.oracle.peek 0).byte (prescaleOf hz)) k) }

/-- Tier 1. R123: SETFREQ with `hz = 0` in READY: InvalidOperandError, no transport call, no other change. -/
def Obligations.SetfreqZeroIsRefused : Prop :=
  ∀ s : State, Quiet s → s.life = .READY →
    exec (.setfreq 0) s = .next { s with rsp := some .invalidOperandError }

/-- Tier 1. R90: GETFREQ in READY answers the stored rational and does nothing else; its refusals in the other states. -/
def Obligations.GetfreqAnswersStoredFrequency : Prop :=
  ∀ (s : State) (f : Rat), Quiet s → s.frequencyHz = some f →
    (s.life = .READY → exec .getfreq s = .next { s with rsp := some (.okValue f) }) ∧
    (s.life = .CLOSED → exec .getfreq s = .next { s with rsp := some .driverClosedError }) ∧
    (s.life = .UNOPENED ∨ s.life = .FAILED → exec .getfreq s = .next { s with rsp := some .illegalCommandError })

/-- Tier 2. R92: after a SETFREQ that answers OK the registers lie in the stated ranges. -/
def Obligations.SetfreqRealisedRange : Prop :=
  ∀ (s t : State) (hz : Rat), Quiet s → s.life = .READY → exec (.setfreq hz) s = .next t → t.rsp = some .ok →
    ∃ f u : Rat, t.frequencyHz = some f ∧ t.pulseWidthUs = some u ∧ 390625 / 16384 ≤ f ∧ f ≤ 390625 / 256 ∧
      65536 / 100 ≤ u ∧ u ≤ 4194304 / 100 ∧ (hz = 2000 → f = 390625 / 256)

/-! ### SETDUTY and SETPW (43_duty_cycle.md, 44_pulse_width.md) -/

/-- Tier 2. R102: SETDUTY in READY on a channel that has an address, the call answered `ok`: one block write, no register
written. -/
def Obligations.SetdutyWritesItsBlock : Prop :=
  ∀ (s : State) (ch : Channel) (x : Rat) (a : RegAddr), Quiet s → s.life = .READY → addrOf s.cfg ch = some a →
    (s.oracle.peek 0).ok = true →
    exec (.setduty ch x) s = .next { s with
      oracle := s.oracle.skip 1
      trace := s.trace ++ [.block s.busHandle a (blockOf (onOffOf (stepsOf x)).1 (onOffOf (stepsOf x)).2) true]
      rsp := some .ok }

/-- Tier 2. R103: SETDUTY and SETPW whose block write fails: RegisterIOError with the block's first address, no register
written, `life` still READY. -/
def Obligations.BlockWriteFailureIsReported : Prop :=
  ∀ (s : State) (ch : Channel) (x u : Rat) (a : RegAddr), Quiet s → s.life = .READY → addrOf s.cfg ch = some a →
    s.pulseWidthUs = some u → (s.oracle.peek 0).ok = false →
    exec (.setduty ch x) s = .next { s with
      oracle := s.oracle.skip 1
      trace := s.trace ++ [.block s.busHandle a (blockOf (onOffOf (stepsOf x)).1 (onOffOf (stepsOf x)).2) false]
      rsp := some (.registerIOError a .blockwrite) } ∧
    exec (.setpw ch x) s = .next { s with
      oracle := s.oracle.skip 1
      trace := s.trace ++ [.block s.busHandle a
        (blockOf (onOffOf (stepsOf (x / u * 100))).1 (onOffOf (stepsOf (x / u * 100))).2) false]
      rsp := some (.registerIOError a .blockwrite) }

/-- Tier 1. The addresses of R101: the broadcast block's, and the sixteen channel blocks' without a wrap. -/
def Obligations.ChannelAddresses : Prop :=
  ∀ c : Params, c.wf = true →
    addrOf c .all = some c.regAllBase ∧
    ∀ k : Fin 16, ∃ a, addrOf c (.single k) = some a ∧ a.toNat = c.regChBase.toNat + 4 * k.val

/-- Tier 2. R104: an out-of-range channel under both policies, for SETDUTY and SETPW. -/
def Obligations.OutOfRangeChannelByPolicy : Prop :=
  ∀ (s : State) (n : Int) (x : Rat), Quiet s → s.life = .READY →
    (s.cfg.chOorPolicy = .reject →
      exec (.setduty (.outOfRange n) x) s = .next { s with rsp := some .invalidChannelError } ∧
      exec (.setpw (.outOfRange n) x) s = .next { s with rsp := some .invalidChannelError }) ∧
    (s.cfg.chOorPolicy = .broadcast →
      exec (.setduty (.outOfRange n) x) s = exec (.setduty .all x) s ∧
      exec (.setpw (.outOfRange n) x) s = exec (.setpw .all x) s)

/-- Tier 2. R110: SETPW in READY, the call answered `ok`: the block of the percentage of the stored period; no register
written; and it is SETDUTY of that percentage. -/
def Obligations.SetpwWritesItsBlock : Prop :=
  ∀ (s : State) (ch : Channel) (w u : Rat) (a : RegAddr), Quiet s → s.life = .READY → addrOf s.cfg ch = some a →
    s.pulseWidthUs = some u →
    ((s.oracle.peek 0).ok = true → exec (.setpw ch w) s = .next { s with
      oracle := s.oracle.skip 1
      trace := s.trace ++ [.block s.busHandle a
        (blockOf (onOffOf (stepsOf (w / u * 100))).1 (onOffOf (stepsOf (w / u * 100))).2) true]
      rsp := some .ok }) ∧
    exec (.setpw ch w) s = exec (.setduty ch (w / u * 100)) s

/-! ### CLOSE (45_shutdown.md) -/

/-- Tier 2. R114: CLOSE in READY, the block write answered `ok`. -/
def Obligations.CloseZeroesAndReleases : Prop :=
  ∀ s : State, Quiet s → s.life = .READY → (s.oracle.peek 0).ok = true →
    exec .close s = .next { s with
      life := .CLOSED
      busHandle := none
      oracle := s.oracle.skip 1
      trace := s.trace ++ [.block s.busHandle s.cfg.regAllBase ⟨0, 0, 0, 0⟩ true, .busClose s.busHandle]
      rsp := some .ok }

/-- Tier 2. R116: CLOSE in READY whose block write fails still releases the handle, and reports the error. -/
def Obligations.CloseReleasesOnFailure : Prop :=
  ∀ s : State, Quiet s → s.life = .READY → (s.oracle.peek 0).ok = false →
    exec .close s = .next { s with
      life := .CLOSED
      busHandle := none
      oracle := s.oracle.skip 1
      trace := s.trace ++ [.block s.busHandle s.cfg.regAllBase ⟨0, 0, 0, 0⟩ false, .busClose s.busHandle]
      rsp := some (.registerIOError s.cfg.regAllBase .blockwrite) }

/-- Tier 1. R115: CLOSE outside READY. -/
def Obligations.CloseOutsideReady : Prop :=
  ∀ s : State, Quiet s →
    (s.life = .CLOSED → exec .close s = .next { s with rsp := some .ok }) ∧
    (s.life = .UNOPENED ∨ s.life = .FAILED → exec .close s = .next { s with rsp := some .illegalCommandError })

/-! ### Lifecycle, order of checks, ports (60_exceptions.md) -/

/-- Tier 2. R139: every entry of the table. Where it refuses, only the response port changes; where it says `run`, the
command completes and its response is neither refusal. -/
def Obligations.LifecycleTable : Prop :=
  ∀ (s : State) (i : Instr), Quiet s →
    (s.life = .UNOPENED → i.cmd ≠ .INIT → exec i s = .next { s with rsp := some .illegalCommandError }) ∧
    (s.life = .READY → i.cmd = .INIT → exec i s = .next { s with rsp := some .illegalCommandError }) ∧
    (s.life = .CLOSED → i.cmd ≠ .CLOSE → exec i s = .next { s with rsp := some .driverClosedError }) ∧
    (s.life = .CLOSED → i.cmd = .CLOSE → exec i s = .next { s with rsp := some .ok }) ∧
    (s.life = .FAILED → exec i s = .next { s with rsp := some .illegalCommandError }) ∧
    (s.life = .UNOPENED ∧ i.cmd = .INIT ∨ s.life = .READY ∧ i.cmd ≠ .INIT →
      ∃ t r, exec i s = .next t ∧ t.rsp = some r ∧ r ≠ .illegalCommandError ∧ r ≠ .driverClosedError)

/-- Tier 2. R124 cause (a), R60: a step on an illegal word, in every lifecycle state (R125 item 1 comes first). -/
def Obligations.IllegalWordIsAnswered : Prop :=
  ∀ (s : State) (w : CmdWord) (rest : List HostInput) (e : Illegal), Quiet s → s.hostIn = .command w :: rest →
    decode w = .error e →
    step s = .next { s with hostIn := rest, rsp := some .illegalCommandError }

/-- Tier 1. A step runs the decoded instruction: idle, nothing to deliver, a legal word on the command port and no reset
asserted after it, the step is `exec` of the instruction with the word taken. Model's convention: log 1, log 8. -/
def Obligations.StepRunsDecodedInstruction : Prop :=
  ∀ (s : State) (w : CmdWord) (rest : List HostInput) (i : Instr), s.phase = .IDLE → s.rsp = none →
    s.hostIn = .command w :: rest → (∀ n rest', rest ≠ .reset n :: rest') → decode w = .ok i →
    step s = exec i { s with hostIn := rest }

/-- Tier 1. R134: a command is not accepted while another runs or a response is not delivered; in a step the pending
response is delivered before anything is accepted. Model's convention: log 8, log 15. -/
def Obligations.PortAcceptsOneAtATime : Prop :=
  (∀ (s : State) (i : Instr), s.phase ≠ .IDLE ∨ s.rsp ≠ none → exec i s = .next s) ∧
  (∀ (s : State) (r : Response), s.phase = .IDLE → s.rsp = some r → (∀ n rest, s.hostIn ≠ .reset n :: rest) →
    step s = .next { s with rsp := none, responses := s.responses ++ [r] })

/-- Tier 2. 30_encoding.md section 4 (R62) and 70_reset_and_hazards.md section 5 (R157, whose fourteen events rest on R79,
derived by the spec): every accepted command ends with exactly one response pending, in IDLE, with none delivered meanwhile
and at most fourteen events more; only GETFREQ answers a value. That every transient holds no value again is the model's
(log 7). -/
def Obligations.EveryCommandAnswersOnce : Prop :=
  ∀ (s : State) (i : Instr), Quiet s →
    ∃ (t : State) (r : Response) (es : List Event), exec i s = .next t ∧ Quiet { t with rsp := none } ∧ t.rsp = some r ∧
      t.responses = s.responses ∧ t.trace = s.trace ++ es ∧ es.length ≤ 14 ∧
      ∀ f, r = .okValue f → i.cmd = .GETFREQ ∧ (∀ g, s.frequencyHz = some g → f = g)

/-- Tier 2. R127: the state after an error, by command. -/
def Obligations.StateAfterError : Prop :=
  ∀ (s t : State) (i : Instr) (r : Response), Inv s → s.accepts = true → exec i s = .next t → t.rsp = some r →
    (r = .busOpenError → i.cmd = .INIT ∧ t.life = .FAILED ∧ t.busHandle = none ∧
      t.busNumber ≠ none ∧ t.devAddress ≠ none) ∧
    (∀ a k, r = .registerIOError a k →
      (i.cmd = .INIT → t.life = .FAILED) ∧
      (i.cmd = .CLOSE → t.life = .CLOSED ∧ t.busHandle = none) ∧
      (i.cmd ≠ .INIT → i.cmd ≠ .CLOSE → t.life = .READY ∧ t.busHandle = s.busHandle) ∧
      (i.cmd ≠ .INIT → t.frequencyHz = s.frequencyHz ∧ t.pulseWidthUs = s.pulseWidthUs)) ∧
    (r = .driverClosedError ∨ r = .invalidChannelError ∨ r = .invalidOperandError ∨ r = .illegalCommandError →
      t = { s with rsp := some r })

/-- Tier 2. R126 (1), (2): among the events of a command a failed call is the last, but for CLOSE's `Close`; a command with
an error response from the bus has exactly such an event. -/
def Obligations.FailedCallEndsTheTrace : Prop :=
  ∀ (s t : State) (i : Instr) (before after : List Event) (e : Event), Quiet s → exec i s = .next t →
    t.trace = s.trace ++ before ++ e :: after → e.failed = true →
    (∀ b, b ∈ before → b.failed = false) ∧ t.rsp = some e.error ∧
    (after = [] ∨ i.cmd = .CLOSE ∧ after = [.busClose s.busHandle])

/-! ### Frames and whole-machine rules -/

/-- Tier 2. What no command changes but those the rules name: the operands of INIT (R16), the frequency registers (R17,
R18), `life` and the handle (R13), the parameters, and the host's side. -/
def Obligations.CommandFrame : Prop :=
  ∀ (s t : State) (i : Instr), Quiet s → exec i s = .next t →
    t.cfg = s.cfg ∧ t.hostIn = s.hostIn ∧ t.responses = s.responses ∧
    (i.cmd ≠ .INIT → t.busNumber = s.busNumber ∧ t.devAddress = s.devAddress) ∧
    (i.cmd ≠ .INIT → i.cmd ≠ .SETFREQ → t.frequencyHz = s.frequencyHz ∧ t.pulseWidthUs = s.pulseWidthUs) ∧
    (i.cmd ≠ .INIT → i.cmd ≠ .CLOSE → t.life = s.life ∧ t.busHandle = s.busHandle) ∧
    (i.cmd = .GETFREQ → t.trace = s.trace ∧ t.oracle = s.oracle)

/-- Tier 2. The register space as the trace has written it: each command writes only the addresses R38 and R39 give it. For
SETDUTY and SETPW the block of `addrOf`, for CLOSE the broadcast block, for SETFREQ two registers, for GETFREQ none; INIT
its registers and the broadcast block. The view itself is the model's, and so is that a broadcast block counts at its own
four addresses only (log 12). -/
def Obligations.RegisterSpaceFrame : Prop :=
  ∀ (s t : State) (i : Instr) (a : RegAddr), Quiet s → exec i s = .next t →
    (match i with
      | .getfreq => True
      | .setfreq _ => a ≠ s.cfg.regMode1 ∧ a ≠ s.cfg.regPrescale
      | .setduty ch _ => ∀ b, addrOf s.cfg ch = some b → inBlock b a = false
      | .setpw ch _ => ∀ b, addrOf s.cfg ch = some b → inBlock b a = false
      | .close => inBlock s.cfg.regAllBase a = false
      | .init _ _ => a ≠ s.cfg.regMode1 ∧ a ≠ s.cfg.regMode2 ∧ a ≠ s.cfg.regPrescale ∧
          inBlock s.cfg.regAllBase a = false) →
    regView t.trace a = regView s.trace a

/-- Tier 2. What a successful SETDUTY or SETPW leaves at the four addresses of its block (R37, R40); the view is the
model's (log 12). -/
def Obligations.BlockLandsAtFourAddresses : Prop :=
  ∀ (s : State) (ch : Channel) (x : Rat) (a : RegAddr), Quiet s → s.life = .READY → addrOf s.cfg ch = some a →
    (s.oracle.peek 0).ok = true →
    ∃ t, exec (.setduty ch x) s = .next t ∧
      regView t.trace a = .wrote ((onOffOf (stepsOf x)).1.setWidth 8) ∧
      regView t.trace (a + 1) = .wrote (((onOffOf (stepsOf x)).1 >>> 8).setWidth 8) ∧
      regView t.trace (a + 2) = .wrote ((onOffOf (stepsOf x)).2.setWidth 8) ∧
      regView t.trace (a + 3) = .wrote (((onOffOf (stepsOf x)).2 >>> 8).setWidth 8)

/-- Tier 2. R149: the prescaler register is written only by SETFREQ's sequence, right after a successful write of the mode
register with the sleep bit set; no other command writes it. Where the parameters give the prescaler an address of
its own. -/
def Obligations.PrescalerWrittenOnlyAsleep : Prop :=
  ∀ (s t : State) (i : Instr) (before after : List Event) (e : Event), Quiet s → exec i s = .next t →
    s.cfg.regPrescale ≠ s.cfg.regMode1 → s.cfg.regPrescale ≠ s.cfg.regMode2 →
    t.trace = s.trace ++ before ++ e :: after → e.writesByte s.cfg.regPrescale = true →
    (i.cmd = .INIT ∨ i.cmd = .SETFREQ) ∧
    ∃ (before' : List Event) (via : Option Handle) (v : Byte),
      before = before' ++ [.write via s.cfg.regMode1 v true] ∧ v &&& s.cfg.m1Sleep = s.cfg.m1Sleep

/-- Tier 2. R156: the settle delays and transport calls of each command that answers OK. -/
def Obligations.DelaysAndCallsPerCommand : Prop :=
  ∀ (s t : State) (i : Instr) (es : List Event), Quiet s → exec i s = .next t → t.trace = s.trace ++ es →
    (i.cmd = .INIT → t.rsp = some .ok →
      delayUs es = 1500 ∧ es.count (.delay 500) = 3 ∧ (es.filter Event.canFail).length = 11) ∧
    (i.cmd = .SETFREQ → t.rsp = some .ok →
      delayUs es = 500 ∧ es.count (.delay 500) = 1 ∧ (es.filter Event.canFail).length = 5) ∧
    (i.cmd ≠ .INIT → i.cmd ≠ .SETFREQ → delayUs es = 0 ∧ es.count (.delay 500) = 0)

/-- Tier 2. R15, R31: in a run every transport call of a host command in READY goes through the handle INIT opened; no
command in READY opens a bus (R33). -/
def Obligations.CallsGoThroughTheHandle : Prop :=
  ∀ (s t : State) (i : Instr) (es : List Event), Inv s → s.accepts = true → s.life = .READY → exec i s = .next t →
    t.trace = s.trace ++ es → s.busHandle ≠ none ∧ ∀ e, e ∈ es → e.through s.busHandle = true

/-- Tier 1. R142: the state after reset; the values of the parameters and inputs are the model's (log 3, log 5). -/
def Obligations.ResetState : Prop :=
  State.reset.life = .UNOPENED ∧ State.reset.busHandle = none ∧ State.reset.phase = .IDLE ∧
  State.reset.busNumber = none ∧ State.reset.devAddress = none ∧ State.reset.frequencyHz = none ∧
  State.reset.pulseWidthUs = none ∧ State.reset.m = none ∧ State.reset.prescale = none ∧ State.reset.percent = none ∧
  State.reset.steps = none ∧ State.reset.onStep = none ∧ State.reset.offStep = none ∧ State.reset.rsp = none ∧
  State.reset.settleTimer = none ∧ State.reset.trace = [] ∧ State.reset.responses = []

/-- Tier 2. R141: the reset input in any state, also in the middle of a command: every register as R142 says, no event, no
response to the abandoned command. -/
def Obligations.ResetInputInAnyState : Prop :=
  ∀ (s : State) (rest : List HostInput), s.hostIn = .reset 0 :: rest →
    step s = .next { State.reset with
      cfg := s.cfg, hostIn := rest, oracle := s.oracle, trace := s.trace, responses := s.responses }

/-- Tier 2. R153 and R141, in the model's convention of when a reset falls (log 1, log 5): a command cut by a reset.
From a quiet state with a command and a reset asserted `n` steps after it is begun, `n + 2` steps end in the reset
state, and the events emitted are the first ones of the whole command. -/
def Obligations.ResetCutsACommandShort : Prop :=
  ∀ (s t : State) (w : CmdWord) (i : Instr) (n : Nat) (rest : List HostInput), Quiet s →
    s.hostIn = .command w :: .reset n :: rest → decode w = .ok i → exec i s = .next t →
    ∃ u es all, Sys2Proof.core.run (n + 2) s = .next u ∧ u.life = .UNOPENED ∧ u.phase = .IDLE ∧ u.busHandle = none ∧
      u.rsp = none ∧ u.hostIn = rest ∧ u.trace = s.trace ++ es ∧ t.trace = s.trace ++ all ∧ es <+: all

/-- Tier 2. The whole command and its sequencer steps one at a time agree (R20; log 1): where a reset is asserted so late
that the command ends first, stepping reaches what `exec` gives. The bound eighteen rests on how the model cuts steps: I5 is
two positions (log 6), a settle delay two steps (log 9). -/
def Obligations.SteppingReachesWholeCommand : Prop :=
  ∀ (s t : State) (w : CmdWord) (i : Instr) (n : Nat) (rest : List HostInput), Quiet s →
    s.hostIn = .command w :: .reset n :: rest → decode w = .ok i → 18 ≤ n → exec i s = .next t →
    ∃ k, k ≤ 18 ∧ Sys2Proof.core.run (k + 1) s = .next { t with hostIn := .reset (n - k) :: rest }

/-- Tier 2. R14: from a state of a run, the transitions of `life` in one step. -/
def Obligations.LifecycleTransitions : Prop :=
  ∀ s t : State, Inv s → step s = .next t →
    t.life = s.life ∨ (s.life = .UNOPENED ∧ (t.life = .READY ∨ t.life = .FAILED)) ∨
    (s.life = .READY ∧ t.life = .CLOSED) ∨
    (t.life = .UNOPENED ∧ ∃ rest, s.hostIn = .reset 0 :: rest)

/-- Tier 2. R47: events are only added, in every step; the machine never stops. -/
def Obligations.TraceOnlyGrows : Prop :=
  ∀ s : State, ∃ (t : State) (es : List Event), step s = .next t ∧ t.trace = s.trace ++ es

/-- Tier 1. The state after reset meets the invariant. -/
def Obligations.ResetMeetsInvariant : Prop := Inv State.reset

/-- Tier 3. Every step keeps the invariant, R6's constraints and R19's consistency of the two frequency registers in it. -/
def Obligations.StepKeepsInvariant : Prop :=
  ∀ s t : State, Inv s → step s = .next t → Inv t

/-- Tier 2. R19, read off the invariant: in READY and CLOSED the two registers are those of one prescale. -/
def Obligations.FrequencyRegistersConsistent : Prop :=
  ∀ s t : State, Inv s → step s = .next t → t.life = .READY ∨ t.life = .CLOSED →
    ∃ p : Int, 3 ≤ p ∧ p ≤ 255 ∧ t.frequencyHz = some (390625 / (64 * ((p : Rat) + 1))) ∧
      t.pulseWidthUs = some (4096 * ((p : Rat) + 1) / 25) ∧
      ∀ f u, t.frequencyHz = some f → t.pulseWidthUs = some u → u = 1000000 / f

/-- Tier 1. R63: the response word. -/
def Obligations.ResponseWord : Prop :=
  Response.word .ok = 0x00000000 ∧ (∀ f, Response.word (.okValue f) = 0x00000000 ∧ Response.value (.okValue f) = some f) ∧
  Response.word .busOpenError = 0x01000000 ∧
  (∀ a k, (Response.word (.registerIOError a k)).extractLsb' 24 8 = 2 ∧
    (Response.word (.registerIOError a k)).extractLsb' 16 8 = a ∧
    (Response.word (.registerIOError a k)).extractLsb' 8 8 =
      (match k with | .read => 1 | .write => 2 | .blockwrite => 3) ∧
    (Response.word (.registerIOError a k)).extractLsb' 0 8 = 0) ∧
  Response.word .driverClosedError = 0x03000000 ∧ Response.word .invalidChannelError = 0x04000000 ∧
  Response.word .invalidOperandError = 0x05000000 ∧ Response.word .illegalCommandError = 0x06000000

/-- Tier 2. The constraints of R6 (derived by the spec from R77, R86, R101) on every instantiation: no step writes the
parameters, so in a run they stay legal, and each mode byte a step computes from them does what its bit's name says. -/
def Obligations.ParametersStayLegal : Prop :=
  ∀ s t : State, Inv s → step s = .next t →
    t.cfg = s.cfg ∧ t.cfg.wf = true ∧
    ∀ b : Byte, wakeByte t.cfg b &&& t.cfg.m1Sleep = 0 ∧ sleepByte t.cfg b &&& t.cfg.m1Sleep = t.cfg.m1Sleep ∧
      restartByte t.cfg b &&& t.cfg.m1Sleep = b &&& t.cfg.m1Sleep
end

