-- ==== Sys2Proof/Laws/State.lean ====
section
/-! SUPPORT. One lemma per field and update of State: what each update writes and what it leaves. -/

namespace Sys2Proof.Machine

section EmitFields
variable (s : State) (e : Event)

@[simp] theorem emit_cfg : (s.emit e).cfg = s.cfg := rfl
@[simp] theorem emit_life : (s.emit e).life = s.life := rfl
@[simp] theorem emit_busHandle : (s.emit e).busHandle = s.busHandle := rfl
@[simp] theorem emit_busNumber : (s.emit e).busNumber = s.busNumber := rfl
@[simp] theorem emit_devAddress : (s.emit e).devAddress = s.devAddress := rfl
@[simp] theorem emit_frequencyHz : (s.emit e).frequencyHz = s.frequencyHz := rfl
@[simp] theorem emit_pulseWidthUs : (s.emit e).pulseWidthUs = s.pulseWidthUs := rfl
@[simp] theorem emit_phase : (s.emit e).phase = s.phase := rfl
@[simp] theorem emit_m : (s.emit e).m = s.m := rfl
@[simp] theorem emit_prescale : (s.emit e).prescale = s.prescale := rfl
@[simp] theorem emit_percent : (s.emit e).percent = s.percent := rfl
@[simp] theorem emit_steps : (s.emit e).steps = s.steps := rfl
@[simp] theorem emit_onStep : (s.emit e).onStep = s.onStep := rfl
@[simp] theorem emit_offStep : (s.emit e).offStep = s.offStep := rfl
@[simp] theorem emit_target : (s.emit e).target = s.target := rfl
@[simp] theorem emit_deferred : (s.emit e).deferred = s.deferred := rfl
@[simp] theorem emit_settleTimer : (s.emit e).settleTimer = s.settleTimer := rfl
@[simp] theorem emit_rsp : (s.emit e).rsp = s.rsp := rfl
@[simp] theorem emit_hostIn : (s.emit e).hostIn = s.hostIn := rfl
@[simp] theorem emit_oracle : (s.emit e).oracle = s.oracle := rfl
@[simp] theorem emit_trace : (s.emit e).trace = s.trace ++ [e] := rfl
@[simp] theorem emit_responses : (s.emit e).responses = s.responses := rfl

end EmitFields

section DrawFields
variable (s : State)

@[simp] theorem draw_cfg : (s.draw).cfg = s.cfg := rfl
@[simp] theorem draw_life : (s.draw).life = s.life := rfl
@[simp] theorem draw_busHandle : (s.draw).busHandle = s.busHandle := rfl
@[simp] theorem draw_busNumber : (s.draw).busNumber = s.busNumber := rfl
@[simp] theorem draw_devAddress : (s.draw).devAddress = s.devAddress := rfl
@[simp] theorem draw_frequencyHz : (s.draw).frequencyHz = s.frequencyHz := rfl
@[simp] theorem draw_pulseWidthUs : (s.draw).pulseWidthUs = s.pulseWidthUs := rfl
@[simp] theorem draw_phase : (s.draw).phase = s.phase := rfl
@[simp] theorem draw_m : (s.draw).m = s.m := rfl
@[simp] theorem draw_prescale : (s.draw).prescale = s.prescale := rfl
@[simp] theorem draw_percent : (s.draw).percent = s.percent := rfl
@[simp] theorem draw_steps : (s.draw).steps = s.steps := rfl
@[simp] theorem draw_onStep : (s.draw).onStep = s.onStep := rfl
@[simp] theorem draw_offStep : (s.draw).offStep = s.offStep := rfl
@[simp] theorem draw_target : (s.draw).target = s.target := rfl
@[simp] theorem draw_deferred : (s.draw).deferred = s.deferred := rfl
@[simp] theorem draw_settleTimer : (s.draw).settleTimer = s.settleTimer := rfl
@[simp] theorem draw_rsp : (s.draw).rsp = s.rsp := rfl
@[simp] theorem draw_hostIn : (s.draw).hostIn = s.hostIn := rfl
@[simp] theorem draw_oracle : (s.draw).oracle = s.oracle.skip 1 := rfl
@[simp] theorem draw_trace : (s.draw).trace = s.trace := rfl
@[simp] theorem draw_responses : (s.draw).responses = s.responses := rfl

end DrawFields

section ClearFreqFields
variable (s : State)

@[simp] theorem clearFreq_cfg : (s.clearFreq).cfg = s.cfg := rfl
@[simp] theorem clearFreq_life : (s.clearFreq).life = s.life := rfl
@[simp] theorem clearFreq_busHandle : (s.clearFreq).busHandle = s.busHandle := rfl
@[simp] theorem clearFreq_busNumber : (s.clearFreq).busNumber = s.busNumber := rfl
@[simp] theorem clearFreq_devAddress : (s.clearFreq).devAddress = s.devAddress := rfl
@[simp] theorem clearFreq_frequencyHz : (s.clearFreq).frequencyHz = s.frequencyHz := rfl
@[simp] theorem clearFreq_pulseWidthUs : (s.clearFreq).pulseWidthUs = s.pulseWidthUs := rfl
@[simp] theorem clearFreq_phase : (s.clearFreq).phase = s.phase := rfl
@[simp] theorem clearFreq_m : (s.clearFreq).m = none := rfl
@[simp] theorem clearFreq_prescale : (s.clearFreq).prescale = none := rfl
@[simp] theorem clearFreq_percent : (s.clearFreq).percent = s.percent := rfl
@[simp] theorem clearFreq_steps : (s.clearFreq).steps = s.steps := rfl
@[simp] theorem clearFreq_onStep : (s.clearFreq).onStep = s.onStep := rfl
@[simp] theorem clearFreq_offStep : (s.clearFreq).offStep = s.offStep := rfl
@[simp] theorem clearFreq_target : (s.clearFreq).target = s.target := rfl
@[simp] theorem clearFreq_deferred : (s.clearFreq).deferred = s.deferred := rfl
@[simp] theorem clearFreq_settleTimer : (s.clearFreq).settleTimer = s.settleTimer := rfl
@[simp] theorem clearFreq_rsp : (s.clearFreq).rsp = s.rsp := rfl
@[simp] theorem clearFreq_hostIn : (s.clearFreq).hostIn = s.hostIn := rfl
@[simp] theorem clearFreq_oracle : (s.clearFreq).oracle = s.oracle := rfl
@[simp] theorem clearFreq_trace : (s.clearFreq).trace = s.trace := rfl
@[simp] theorem clearFreq_responses : (s.clearFreq).responses = s.responses := rfl

end ClearFreqFields

section ClearDutyFields
variable (s : State)

@[simp] theorem clearDuty_cfg : (s.clearDuty).cfg = s.cfg := rfl
@[simp] theorem clearDuty_life : (s.clearDuty).life = s.life := rfl
@[simp] theorem clearDuty_busHandle : (s.clearDuty).busHandle = s.busHandle := rfl
@[simp] theorem clearDuty_busNumber : (s.clearDuty).busNumber = s.busNumber := rfl
@[simp] theorem clearDuty_devAddress : (s.clearDuty).devAddress = s.devAddress := rfl
@[simp] theorem clearDuty_frequencyHz : (s.clearDuty).frequencyHz = s.frequencyHz := rfl
@[simp] theorem clearDuty_pulseWidthUs : (s.clearDuty).pulseWidthUs = s.pulseWidthUs := rfl
@[simp] theorem clearDuty_phase : (s.clearDuty).phase = s.phase := rfl
@[simp] theorem clearDuty_m : (s.clearDuty).m = s.m := rfl
@[simp] theorem clearDuty_prescale : (s.clearDuty).prescale = s.prescale := rfl
@[simp] theorem clearDuty_percent : (s.clearDuty).percent = none := rfl
@[simp] theorem clearDuty_steps : (s.clearDuty).steps = none := rfl
@[simp] theorem clearDuty_onStep : (s.clearDuty).onStep = none := rfl
@[simp] theorem clearDuty_offStep : (s.clearDuty).offStep = none := rfl
@[simp] theorem clearDuty_target : (s.clearDuty).target = none := rfl
@[simp] theorem clearDuty_deferred : (s.clearDuty).deferred = s.deferred := rfl
@[simp] theorem clearDuty_settleTimer : (s.clearDuty).settleTimer = s.settleTimer := rfl
@[simp] theorem clearDuty_rsp : (s.clearDuty).rsp = s.rsp := rfl
@[simp] theorem clearDuty_hostIn : (s.clearDuty).hostIn = s.hostIn := rfl
@[simp] theorem clearDuty_oracle : (s.clearDuty).oracle = s.oracle := rfl
@[simp] theorem clearDuty_trace : (s.clearDuty).trace = s.trace := rfl
@[simp] theorem clearDuty_responses : (s.clearDuty).responses = s.responses := rfl

end ClearDutyFields

section GoToFields
variable (s : State) (p : Phase)

@[simp] theorem goTo_cfg : (goTo p s).cfg = s.cfg := rfl
@[simp] theorem goTo_life : (goTo p s).life = s.life := rfl
@[simp] theorem goTo_busHandle : (goTo p s).busHandle = s.busHandle := rfl
@[simp] theorem goTo_busNumber : (goTo p s).busNumber = s.busNumber := rfl
@[simp] theorem goTo_devAddress : (goTo p s).devAddress = s.devAddress := rfl
@[simp] theorem goTo_frequencyHz : (goTo p s).frequencyHz = s.frequencyHz := rfl
@[simp] theorem goTo_pulseWidthUs : (goTo p s).pulseWidthUs = s.pulseWidthUs := rfl
@[simp] theorem goTo_phase : (goTo p s).phase = p := rfl
@[simp] theorem goTo_m : (goTo p s).m = s.m := rfl
@[simp] theorem goTo_prescale : (goTo p s).prescale = s.prescale := rfl
@[simp] theorem goTo_percent : (goTo p s).percent = s.percent := rfl
@[simp] theorem goTo_steps : (goTo p s).steps = s.steps := rfl
@[simp] theorem goTo_onStep : (goTo p s).onStep = s.onStep := rfl
@[simp] theorem goTo_offStep : (goTo p s).offStep = s.offStep := rfl
@[simp] theorem goTo_target : (goTo p s).target = s.target := rfl
@[simp] theorem goTo_deferred : (goTo p s).deferred = s.deferred := rfl
@[simp] theorem goTo_settleTimer : (goTo p s).settleTimer = s.settleTimer := rfl
@[simp] theorem goTo_rsp : (goTo p s).rsp = s.rsp := rfl
@[simp] theorem goTo_hostIn : (goTo p s).hostIn = s.hostIn := rfl
@[simp] theorem goTo_oracle : (goTo p s).oracle = s.oracle := rfl
@[simp] theorem goTo_trace : (goTo p s).trace = s.trace := rfl
@[simp] theorem goTo_responses : (goTo p s).responses = s.responses := rfl

end GoToFields

section RespondFields
variable (s : State) (r : Response)

@[simp] theorem respond_cfg : (respond s r).cfg = s.cfg := rfl
@[simp] theorem respond_life : (respond s r).life = s.life := rfl
@[simp] theorem respond_busHandle : (respond s r).busHandle = s.busHandle := rfl
@[simp] theorem respond_busNumber : (respond s r).busNumber = s.busNumber := rfl
@[simp] theorem respond_devAddress : (respond s r).devAddress = s.devAddress := rfl
@[simp] theorem respond_frequencyHz : (respond s r).frequencyHz = s.frequencyHz := rfl
@[simp] theorem respond_pulseWidthUs : (respond s r).pulseWidthUs = s.pulseWidthUs := rfl
@[simp] theorem respond_phase : (respond s r).phase = s.phase := rfl
@[simp] theorem respond_m : (respond s r).m = s.m := rfl
@[simp] theorem respond_prescale : (respond s r).prescale = s.prescale := rfl
@[simp] theorem respond_percent : (respond s r).percent = s.percent := rfl
@[simp] theorem respond_steps : (respond s r).steps = s.steps := rfl
@[simp] theorem respond_onStep : (respond s r).onStep = s.onStep := rfl
@[simp] theorem respond_offStep : (respond s r).offStep = s.offStep := rfl
@[simp] theorem respond_target : (respond s r).target = s.target := rfl
@[simp] theorem respond_deferred : (respond s r).deferred = s.deferred := rfl
@[simp] theorem respond_settleTimer : (respond s r).settleTimer = s.settleTimer := rfl
@[simp] theorem respond_rsp : (respond s r).rsp = some r := rfl
@[simp] theorem respond_hostIn : (respond s r).hostIn = s.hostIn := rfl
@[simp] theorem respond_oracle : (respond s r).oracle = s.oracle := rfl
@[simp] theorem respond_trace : (respond s r).trace = s.trace := rfl
@[simp] theorem respond_responses : (respond s r).responses = s.responses := rfl

end RespondFields

section FinishFields
variable (s : State) (r : Response)

@[simp] theorem finish_cfg : (finish s r).cfg = s.cfg := rfl
@[simp] theorem finish_life : (finish s r).life = s.life := rfl
@[simp] theorem finish_busHandle : (finish s r).busHandle = s.busHandle := rfl
@[simp] theorem finish_busNumber : (finish s r).busNumber = s.busNumber := rfl
@[simp] theorem finish_devAddress : (finish s r).devAddress = s.devAddress := rfl
@[simp] theorem finish_frequencyHz : (finish s r).frequencyHz = s.frequencyHz := rfl
@[simp] theorem finish_pulseWidthUs : (finish s r).pulseWidthUs = s.pulseWidthUs := rfl
@[simp] theorem finish_phase : (finish s r).phase = .IDLE := rfl
@[simp] theorem finish_m : (finish s r).m = none := rfl
@[simp] theorem finish_prescale : (finish s r).prescale = none := rfl
@[simp] theorem finish_percent : (finish s r).percent = none := rfl
@[simp] theorem finish_steps : (finish s r).steps = none := rfl
@[simp] theorem finish_onStep : (finish s r).onStep = none := rfl
@[simp] theorem finish_offStep : (finish s r).offStep = none := rfl
@[simp] theorem finish_target : (finish s r).target = none := rfl
@[simp] theorem finish_deferred : (finish s r).deferred = none := rfl
@[simp] theorem finish_settleTimer : (finish s r).settleTimer = none := rfl
@[simp] theorem finish_rsp : (finish s r).rsp = some r := rfl
@[simp] theorem finish_hostIn : (finish s r).hostIn = s.hostIn := rfl
@[simp] theorem finish_oracle : (finish s r).oracle = s.oracle := rfl
@[simp] theorem finish_trace : (finish s r).trace = s.trace := rfl
@[simp] theorem finish_responses : (finish s r).responses = s.responses := rfl

end FinishFields

section DeliverFields
variable (s : State) (r : Response)

@[simp] theorem deliver_cfg : (deliver s r).cfg = s.cfg := rfl
@[simp] theorem deliver_life : (deliver s r).life = s.life := rfl
@[simp] theorem deliver_busHandle : (deliver s r).busHandle = s.busHandle := rfl
@[simp] theorem deliver_busNumber : (deliver s r).busNumber = s.busNumber := rfl
@[simp] theorem deliver_devAddress : (deliver s r).devAddress = s.devAddress := rfl
@[simp] theorem deliver_frequencyHz : (deliver s r).frequencyHz = s.frequencyHz := rfl
@[simp] theorem deliver_pulseWidthUs : (deliver s r).pulseWidthUs = s.pulseWidthUs := rfl
@[simp] theorem deliver_phase : (deliver s r).phase = s.phase := rfl
@[simp] theorem deliver_m : (deliver s r).m = s.m := rfl
@[simp] theorem deliver_prescale : (deliver s r).prescale = s.prescale := rfl
@[simp] theorem deliver_percent : (deliver s r).percent = s.percent := rfl
@[simp] theorem deliver_steps : (deliver s r).steps = s.steps := rfl
@[simp] theorem deliver_onStep : (deliver s r).onStep = s.onStep := rfl
@[simp] theorem deliver_offStep : (deliver s r).offStep = s.offStep := rfl
@[simp] theorem deliver_target : (deliver s r).target = s.target := rfl
@[simp] theorem deliver_deferred : (deliver s r).deferred = s.deferred := rfl
@[simp] theorem deliver_settleTimer : (deliver s r).settleTimer = s.settleTimer := rfl
@[simp] theorem deliver_rsp : (deliver s r).rsp = none := rfl
@[simp] theorem deliver_hostIn : (deliver s r).hostIn = s.hostIn := rfl
@[simp] theorem deliver_oracle : (deliver s r).oracle = s.oracle := rfl
@[simp] theorem deliver_trace : (deliver s r).trace = s.trace := rfl
@[simp] theorem deliver_responses : (deliver s r).responses = s.responses ++ [r] := rfl

end DeliverFields

section BusCloseFields
variable (s : State)

@[simp] theorem busClose_cfg : (busClose s).cfg = s.cfg := rfl
@[simp] theorem busClose_life : (busClose s).life = s.life := rfl
@[simp] theorem busClose_busHandle : (busClose s).busHandle = none := rfl
@[simp] theorem busClose_busNumber : (busClose s).busNumber = s.busNumber := rfl
@[simp] theorem busClose_devAddress : (busClose s).devAddress = s.devAddress := rfl
@[simp] theorem busClose_frequencyHz : (busClose s).frequencyHz = s.frequencyHz := rfl
@[simp] theorem busClose_pulseWidthUs : (busClose s).pulseWidthUs = s.pulseWidthUs := rfl
@[simp] theorem busClose_phase : (busClose s).phase = s.phase := rfl
@[simp] theorem busClose_m : (busClose s).m = s.m := rfl
@[simp] theorem busClose_prescale : (busClose s).prescale = s.prescale := rfl
@[simp] theorem busClose_percent : (busClose s).percent = s.percent := rfl
@[simp] theorem busClose_steps : (busClose s).steps = s.steps := rfl
@[simp] theorem busClose_onStep : (busClose s).onStep = s.onStep := rfl
@[simp] theorem busClose_offStep : (busClose s).offStep = s.offStep := rfl
@[simp] theorem busClose_target : (busClose s).target = s.target := rfl
@[simp] theorem busClose_deferred : (busClose s).deferred = s.deferred := rfl
@[simp] theorem busClose_settleTimer : (busClose s).settleTimer = s.settleTimer := rfl
@[simp] theorem busClose_rsp : (busClose s).rsp = s.rsp := rfl
@[simp] theorem busClose_hostIn : (busClose s).hostIn = s.hostIn := rfl
@[simp] theorem busClose_oracle : (busClose s).oracle = s.oracle := rfl
@[simp] theorem busClose_trace : (busClose s).trace = s.trace ++ [.busClose s.busHandle] := rfl
@[simp] theorem busClose_responses : (busClose s).responses = s.responses := rfl

end BusCloseFields

section EnterFreqFields
variable (s : State) (wrap : FreqStep → Phase) (hz : Rat)

@[simp] theorem enterFreq_cfg : (enterFreq wrap hz s).cfg = s.cfg := rfl
@[simp] theorem enterFreq_life : (enterFreq wrap hz s).life = s.life := rfl
@[simp] theorem enterFreq_busHandle : (enterFreq wrap hz s).busHandle = s.busHandle := rfl
@[simp] theorem enterFreq_busNumber : (enterFreq wrap hz s).busNumber = s.busNumber := rfl
@[simp] theorem enterFreq_devAddress : (enterFreq wrap hz s).devAddress = s.devAddress := rfl
@[simp] theorem enterFreq_frequencyHz : (enterFreq wrap hz s).frequencyHz = s.frequencyHz := rfl
@[simp] theorem enterFreq_pulseWidthUs : (enterFreq wrap hz s).pulseWidthUs = s.pulseWidthUs := rfl
@[simp] theorem enterFreq_phase : (enterFreq wrap hz s).phase = wrap .F1 := rfl
@[simp] theorem enterFreq_m : (enterFreq wrap hz s).m = s.m := rfl
@[simp] theorem enterFreq_prescale : (enterFreq wrap hz s).prescale = some (prescaleOf hz) := rfl
@[simp] theorem enterFreq_percent : (enterFreq wrap hz s).percent = s.percent := rfl
@[simp] theorem enterFreq_steps : (enterFreq wrap hz s).steps = s.steps := rfl
@[simp] theorem enterFreq_onStep : (enterFreq wrap hz s).onStep = s.onStep := rfl
@[simp] theorem enterFreq_offStep : (enterFreq wrap hz s).offStep = s.offStep := rfl
@[simp] theorem enterFreq_target : (enterFreq wrap hz s).target = s.target := rfl
@[simp] theorem enterFreq_deferred : (enterFreq wrap hz s).deferred = s.deferred := rfl
@[simp] theorem enterFreq_settleTimer : (enterFreq wrap hz s).settleTimer = s.settleTimer := rfl
@[simp] theorem enterFreq_rsp : (enterFreq wrap hz s).rsp = s.rsp := rfl
@[simp] theorem enterFreq_hostIn : (enterFreq wrap hz s).hostIn = s.hostIn := rfl
@[simp] theorem enterFreq_oracle : (enterFreq wrap hz s).oracle = s.oracle := rfl
@[simp] theorem enterFreq_trace : (enterFreq wrap hz s).trace = s.trace := rfl
@[simp] theorem enterFreq_responses : (enterFreq wrap hz s).responses = s.responses := rfl

end EnterFreqFields

section EnterDutyFields
variable (s : State) (p : Phase) (a : RegAddr) (x : Rat)

@[simp] theorem enterDuty_cfg : (enterDuty p a x s).cfg = s.cfg := rfl
@[simp] theorem enterDuty_life : (enterDuty p a x s).life = s.life := rfl
@[simp] theorem enterDuty_busHandle : (enterDuty p a x s).busHandle = s.busHandle := rfl
@[simp] theorem enterDuty_busNumber : (enterDuty p a x s).busNumber = s.busNumber := rfl
@[simp] theorem enterDuty_devAddress : (enterDuty p a x s).devAddress = s.devAddress := rfl
@[simp] theorem enterDuty_frequencyHz : (enterDuty p a x s).frequencyHz = s.frequencyHz := rfl
@[simp] theorem enterDuty_pulseWidthUs : (enterDuty p a x s).pulseWidthUs = s.pulseWidthUs := rfl
@[simp] theorem enterDuty_phase : (enterDuty p a x s).phase = p := rfl
@[simp] theorem enterDuty_m : (enterDuty p a x s).m = s.m := rfl
@[simp] theorem enterDuty_prescale : (enterDuty p a x s).prescale = s.prescale := rfl
@[simp] theorem enterDuty_percent : (enterDuty p a x s).percent = some x := rfl
@[simp] theorem enterDuty_steps : (enterDuty p a x s).steps = some (stepsOf x) := rfl
@[simp] theorem enterDuty_onStep : (enterDuty p a x s).onStep = some (onOffOf (stepsOf x)).1 := rfl
@[simp] theorem enterDuty_offStep : (enterDuty p a x s).offStep = some (onOffOf (stepsOf x)).2 := rfl
@[simp] theorem enterDuty_target : (enterDuty p a x s).target = some a := rfl
@[simp] theorem enterDuty_deferred : (enterDuty p a x s).deferred = s.deferred := rfl
@[simp] theorem enterDuty_settleTimer : (enterDuty p a x s).settleTimer = s.settleTimer := rfl
@[simp] theorem enterDuty_rsp : (enterDuty p a x s).rsp = s.rsp := rfl
@[simp] theorem enterDuty_hostIn : (enterDuty p a x s).hostIn = s.hostIn := rfl
@[simp] theorem enterDuty_oracle : (enterDuty p a x s).oracle = s.oracle := rfl
@[simp] theorem enterDuty_trace : (enterDuty p a x s).trace = s.trace := rfl
@[simp] theorem enterDuty_responses : (enterDuty p a x s).responses = s.responses := rfl

end EnterDutyFields

section ApplyResetFields
variable (s : State)

@[simp] theorem applyReset_cfg : (applyReset s).cfg = s.cfg := rfl
@[simp] theorem applyReset_life : (applyReset s).life = .UNOPENED := rfl
@[simp] theorem applyReset_busHandle : (applyReset s).busHandle = none := rfl
@[simp] theorem applyReset_busNumber : (applyReset s).busNumber = none := rfl
@[simp] theorem applyReset_devAddress : (applyReset s).devAddress = none := rfl
@[simp] theorem applyReset_frequencyHz : (applyReset s).frequencyHz = none := rfl
@[simp] theorem applyReset_pulseWidthUs : (applyReset s).pulseWidthUs = none := rfl
@[simp] theorem applyReset_phase : (applyReset s).phase = .IDLE := rfl
@[simp] theorem applyReset_m : (applyReset s).m = none := rfl
@[simp] theorem applyReset_prescale : (applyReset s).prescale = none := rfl
@[simp] theorem applyReset_percent : (applyReset s).percent = none := rfl
@[simp] theorem applyReset_steps : (applyReset s).steps = none := rfl
@[simp] theorem applyReset_onStep : (applyReset s).onStep = none := rfl
@[simp] theorem applyReset_offStep : (applyReset s).offStep = none := rfl
@[simp] theorem applyReset_target : (applyReset s).target = none := rfl
@[simp] theorem applyReset_deferred : (applyReset s).deferred = none := rfl
@[simp] theorem applyReset_settleTimer : (applyReset s).settleTimer = none := rfl
@[simp] theorem applyReset_rsp : (applyReset s).rsp = none := rfl
@[simp] theorem applyReset_hostIn : (applyReset s).hostIn = s.hostIn := rfl
@[simp] theorem applyReset_oracle : (applyReset s).oracle = s.oracle := rfl
@[simp] theorem applyReset_trace : (applyReset s).trace = s.trace := rfl
@[simp] theorem applyReset_responses : (applyReset s).responses = s.responses := rfl

end ApplyResetFields

end Sys2Proof.Machine
end

