-- ==== Sys2Proof/Laws/Ops.lean ====
section
/-! SUPPORT. What each shared operation can do, said once: the oracle, the shapes of a sequencer step with their success
and failure, and raising an error by the kind of command in progress. -/

namespace Sys2Proof.Machine

/-! ### The oracle -/

@[simp] theorem Oracle.skip_zero (o : Oracle) : o.skip 0 = o := by
  cases o; simp [Oracle.skip]

@[simp] theorem Oracle.skip_skip (o : Oracle) (j k : Nat) : (o.skip j).skip k = o.skip (j + k) := by
  simp only [Oracle.skip, List.drop_drop, List.length_drop, Oracle.mk.injEq, true_and]
  omega

@[simp] theorem Oracle.peek_skip (o : Oracle) (j k : Nat) : (o.skip j).peek k = o.peek (j + k) := by
  have hsub : o.drawn + (j - o.script.length) + (k - (o.script.length - j)) = o.drawn + (j + k - o.script.length) := by
    omega
  simp only [Oracle.skip, Oracle.peek, List.getElem?_drop, List.length_drop, hsub]

/-- A queued answer is the one that is given. -/
theorem Oracle.peek_queued (o : Oracle) (k : Nat) (a : Answer) (h : o.script[k]? = some a) : o.peek k = a := by
  simp [Oracle.peek, h]

@[simp] theorem emit_answer (s : State) (e : Event) : (s.emit e).answer = s.answer := rfl

theorem answer_eq (s : State) : s.answer = s.oracle.peek 0 := rfl

/-! ### The shapes of a sequencer step -/

section Shapes
variable (s : State) (a : RegAddr) (v : Byte) (after done : State → State) (next : Phase)

/-- A successful byte write emits one `ok` event and goes on. -/
theorem writeStep_ok (h : s.answer.ok = true) :
    writeStep s a v after = after (s.draw.emit (.write s.busHandle a v true)) := by
  simp [writeStep, memWrite, h]

/-- A failed byte write emits one `fail` event and raises. -/
theorem writeStep_fail (h : s.answer.ok = false) :
    writeStep s a v after = raise (s.draw.emit (.write s.busHandle a v false)) (.registerIOError a .write) := by
  simp [writeStep, memWrite, h]

/-- A successful read of the mode register puts the byte in `m`. -/
theorem readModeStep_ok (h : s.answer.ok = true) :
    readModeStep s next =
      goTo next { s.draw.emit (.read s.busHandle s.cfg.regMode1 (some s.answer.byte)) with m := some s.answer.byte } := by
  simp [readModeStep, memRead, answerByte, h]

/-- A failed read raises. -/
theorem readModeStep_fail (h : s.answer.ok = false) :
    readModeStep s next =
      raise (s.draw.emit (.read s.busHandle s.cfg.regMode1 none)) (.registerIOError s.cfg.regMode1 .read) := by
  simp [readModeStep, memRead, answerByte, h]

/-- The start of a settle delay: its event, and the timer running. -/
theorem delayStep_start (h : s.settleTimer = none) :
    delayStep s after = { s.emit (.delay Config.settleUs) with settleTimer := some Config.settleUs } := by
  simp [delayStep, h]

/-- The end of a settle delay. -/
theorem delayStep_end (n : Nat) (h : s.settleTimer = some n) :
    delayStep s after = after { s with settleTimer := none } := by
  simp [delayStep, h]

/-- A successful block write emits one `ok` event and goes on. -/
theorem dutyStep_ok (h : s.answer.ok = true) :
    dutyStep done s =
      done (s.draw.emit (.block s.busHandle s.readTarget (blockOf s.readOn s.readOff) true)).clearDuty := by
  simp [dutyStep, memWriteBlock, h]

/-- A failed block write emits one `fail` event and raises. -/
theorem dutyStep_fail (h : s.answer.ok = false) :
    dutyStep done s =
      raise (s.draw.emit (.block s.busHandle s.readTarget (blockOf s.readOn s.readOff) false))
        (.registerIOError s.readTarget .blockwrite) := by
  simp [dutyStep, memWriteBlock, h]

end Shapes

/-- A successful `BusOpen` stores the handle (20_memory.md R33). -/
theorem openStep_ok (s : State) (h : s.answer.ok = true) :
    openStep s = goTo .I2 { s.draw.emit (.busOpen s.readBusNumber s.readDevAddress (some s.answer.handle)) with
      busHandle := some s.answer.handle } := by
  simp [openStep, busOpen, answerHandle, h]

/-- A failed `BusOpen` raises `BusOpenError`. -/
theorem openStep_fail (s : State) (h : s.answer.ok = false) :
    openStep s = raise (s.draw.emit (.busOpen s.readBusNumber s.readDevAddress none)) .busOpenError := by
  simp [openStep, busOpen, answerHandle, h]

/-! ### Raising (60_exceptions.md R126, R127) -/

theorem raise_inInit (s : State) (e : Response) (h : s.phase.inInit = true) :
    raise s e = finish { s with life := .FAILED } e := by
  simp [raise, h]

theorem raise_X1 (s : State) (e : Response) (h : s.phase = .X1) :
    raise s e = goTo .X2 { s.clearDuty with deferred := some e } := by
  simp [raise, h, Phase.inInit]

theorem raise_other (s : State) (e : Response) (h : s.phase.inInit = false) (hX : s.phase ≠ .X1) :
    raise s e = finish s e := by
  simp [raise, h, hX]

/-- Whatever command is in progress, raising leaves the trace, the parameters and the frequency registers as they are. -/
theorem raise_keeps (s : State) (e : Response) :
    (raise s e).trace = s.trace ∧ (raise s e).cfg = s.cfg ∧ (raise s e).frequencyHz = s.frequencyHz ∧
      (raise s e).pulseWidthUs = s.pulseWidthUs ∧ (raise s e).hostIn = s.hostIn ∧ (raise s e).oracle = s.oracle ∧
      (raise s e).responses = s.responses ∧ (raise s e).busHandle = s.busHandle ∧
      (raise s e).busNumber = s.busNumber ∧ (raise s e).devAddress = s.devAddress := by
  unfold raise
  split
  · simp
  · split <;> simp

end Sys2Proof.Machine
end

