-- ==== Sys2Proof/Laws/PerInstr.lean ====
section
/-! SUPPORT. The fields of an encoded word, and for each instruction that its word carries the opcode of R56. -/

namespace Sys2Proof

/-- The bits of a word of format C (30_encoding.md R55). -/
theorem getLsbD_formatC (op aux : BitVec 8) (opd : OpdWord) (i : Nat) :
    (formatC op aux opd).getLsbD i =
      if i < 32 then opd.getLsbD i else if i - 32 < 8 then aux.getLsbD (i - 32) else op.getLsbD (i - 32 - 8) := by
  show BitVec.getLsbD (w := 8 + 8 + 32) (op ++ aux ++ opd) i = _
  rw [BitVec.getLsbD_append, BitVec.getLsbD_append]

theorem opField_formatC (op aux : BitVec 8) (opd : OpdWord) : opField (formatC op aux opd) = op := by
  apply BitVec.eq_of_getLsbD_eq
  intro i hi
  have h2 : ¬ (40 + i - 32 < 8) := by omega
  have h3 : 40 + i - 32 - 8 = i := by omega
  rw [opField, BitVec.getLsbD_extractLsb', getLsbD_formatC, if_neg (by omega), if_neg h2, h3]
  simp [hi]

theorem auxField_formatC (op aux : BitVec 8) (opd : OpdWord) : auxField (formatC op aux opd) = aux := by
  apply BitVec.eq_of_getLsbD_eq
  intro i hi
  have h2 : 32 + i - 32 = i := by omega
  rw [auxField, BitVec.getLsbD_extractLsb', getLsbD_formatC, if_neg (by omega), h2, if_pos hi]
  simp [hi]

theorem opdField_formatC (op aux : BitVec 8) (opd : OpdWord) : opdField (formatC op aux opd) = opd := by
  apply BitVec.eq_of_getLsbD_eq
  intro i hi
  rw [opdField, BitVec.getLsbD_extractLsb', getLsbD_formatC, if_pos (by omega)]
  simp [hi]

/-- A word is the format of its own fields (30_encoding.md R55). -/
theorem formatC_fields (w : CmdWord) : formatC (opField w) (auxField w) (opdField w) = w := by
  apply BitVec.eq_of_getLsbD_eq
  intro i hi
  rw [getLsbD_formatC]
  simp only [opField, auxField, opdField, BitVec.getLsbD_extractLsb']
  split
  · next h => simp [h]
  · split
    · next h h' =>
      have e : 32 + (i - 32) = i := by omega
      simp [h', e]
    · next h h' =>
      have h'' : i - 32 - 8 < 8 := by omega
      have e : 40 + (i - 32 - 8) = i := by omega
      simp [h'', e]

namespace Laws.CarriesOpcode

/-- The word of the instruction carries the opcode 30_encoding.md R56 gives its command. -/
def Statement (i : Instr) : Prop := opField (encode i) = i.cmd.opcode

theorem init (bus : BusNumber) (address : DevAddress) : Statement (.init bus address) := opField_formatC _ _ _
theorem setfreq (hz : Rat) : Statement (.setfreq hz) := opField_formatC _ _ _
theorem getfreq : Statement .getfreq := opField_formatC _ _ _
theorem setduty (channel : Channel) (percent : Rat) : Statement (.setduty channel percent) := opField_formatC _ _ _
theorem setpw (channel : Channel) (widthUs : Rat) : Statement (.setpw channel widthUs) := opField_formatC _ _ _
theorem close : Statement .close := opField_formatC _ _ _

end Laws.CarriesOpcode

end Sys2Proof
end

