-- ==== Sys2Proof/Laws/Sequencer.lean ====
section
/-! SUPPORT. The sequencer: what a step is at each position, what ends a command, and that every command ends within
`maxSeqSteps` steps. -/

namespace Sys2Proof.Machine

/-! ### The step at each position -/

section Positions
variable {s : State}

theorem seqStep_IDLE (h : s.phase = .IDLE) : seqStep s = s := by simp [seqStep, h]
theorem seqStep_I1 (h : s.phase = .I1) : seqStep s = openStep s := by simp [seqStep, h]
theorem seqStep_I2 (h : s.phase = .I2) :
    seqStep s = writeStep s s.cfg.regMode1 (mode1InitByte s.cfg) (goTo .I3) := by simp [seqStep, h]
theorem seqStep_I3 (h : s.phase = .I3) :
    seqStep s = writeStep s s.cfg.regMode2 (mode2InitByte s.cfg) (goTo .I4) := by simp [seqStep, h]
theorem seqStep_I4 (h : s.phase = .I4) : seqStep s = delayStep s (goTo .I5read) := by simp [seqStep, h]
theorem seqStep_I5read (h : s.phase = .I5read) : seqStep s = readModeStep s .I5write := by simp [seqStep, h]
theorem seqStep_I5write (h : s.phase = .I5write) :
    seqStep s = writeStep s s.cfg.regMode1 (wakeByte s.cfg s.readM) fun s => goTo .I6 s.clearFreq := by
  simp [seqStep, h]
theorem seqStep_I6 (h : s.phase = .I6) : seqStep s = delayStep s (enterFreq .I7 Config.defaultHz) := by simp [seqStep, h]
theorem seqStep_I7 (f : FreqStep) (h : s.phase = .I7 f) : seqStep s = freqStep .I7 enterI8 f s := by simp [seqStep, h]
theorem seqStep_I8 (h : s.phase = .I8) : seqStep s = dutyStep finishInit s := by simp [seqStep, h]
theorem seqStep_F (f : FreqStep) (h : s.phase = .F f) : seqStep s = freqStep .F (finish · .ok) f s := by simp [seqStep, h]
theorem seqStep_D1 (h : s.phase = .D1) : seqStep s = dutyStep (finish · .ok) s := by simp [seqStep, h]
theorem seqStep_X1 (h : s.phase = .X1) : seqStep s = dutyStep (goTo .X2) s := by simp [seqStep, h]
theorem seqStep_X2 (h : s.phase = .X2) : seqStep s = closeStep s := by simp [seqStep, h]

end Positions

/-! ### Runs of the sequencer -/

theorem seqSteps_zero (s : State) : seqSteps 0 s = s := rfl

theorem seqSteps_succ (n : Nat) (s : State) : seqSteps (n + 1) s = seqSteps n (seqStep s) := rfl

/-- In IDLE the sequencer rests. -/
theorem seqSteps_of_IDLE {s : State} (h : s.phase = .IDLE) : ∀ n, seqSteps n s = s
  | 0 => rfl
  | n + 1 => by rw [seqSteps_succ, seqStep_IDLE h, seqSteps_of_IDLE h n]

theorem seqSteps_add (j k : Nat) (s : State) : seqSteps (j + k) s = seqSteps k (seqSteps j s) := by
  induction j generalizing s with
  | zero => simp [seqSteps]
  | succ j ih => rw [Nat.succ_add, seqSteps_succ, seqSteps_succ, ih]

theorem runCommand_accepts (begin : State → State) {s : State} (h : s.accepts = true) :
    runCommand begin s = seqSteps maxSeqSteps (begin s) := by simp [runCommand, h]

theorem runCommand_waits (begin : State → State) {s : State} (h : s.accepts = false) : runCommand begin s = s := by
  simp [runCommand, h]

/-! ### Quiet states -/

theorem Quiet.accepts {s : State} (q : Quiet s) : s.accepts = true := by simp [State.accepts, q.phase, q.rsp]

/-- A state of a run that accepts a command is quiet. -/
theorem Inv.quiet {s : State} (i : Inv s) (h : s.accepts = true) : Quiet s := by
  simp only [State.accepts, Bool.and_eq_true, decide_eq_true_eq, Option.isNone_iff_eq_none] at h
  have hm := i.mHeld
  have hp := i.prescaleHeld
  have hd := i.dutyHeld
  have ht := i.timer
  have hf := i.deferredHeld
  simp only [h.1, Phase.holdsM, Phase.holdsPrescale, Phase.holdsDuty, Phase.isDelay, Bool.false_eq_true, if_false,
    Option.isSome_eq_false_iff, Option.isNone_iff_eq_none, and_false, or_false, reduceCtorEq, imp_false, ne_eq,
    Decidable.not_not] at hm hp hd ht hf
  exact ⟨h.1, h.2, hm, hp, hd.1, hd.2.1, hd.2.2.1, hd.2.2.2.1, hd.2.2.2.2, hf, ht⟩

end Sys2Proof.Machine
end

