-- ==== Sys2Proof/Laws/Progress.lean ====
section
/-! SUPPORT. What one sequencer step can touch at all, said once; that the steps left to a command go down, so that every
command ends (70_reset_and_hazards.md R157); and that the answers to come either all succeed or fail first somewhere. -/

namespace Sys2Proof.Machine

/-! ### What a sequencer step leaves -/

/-- `t` has the parameters, the host's inputs and the delivered responses of `s`, and its trace is that of `s` with at most
one event more. -/
structure Extends (s t : State) : Prop where
  cfg : t.cfg = s.cfg
  hostIn : t.hostIn = s.hostIn
  responses : t.responses = s.responses
  trace : ∃ es, t.trace = s.trace ++ es ∧ es.length ≤ 1

theorem raise_extends {s t : State} (e : Response) (h : Extends s t) : Extends s (raise t e) := by
  obtain ⟨htr, hcfg, -, -, hin, -, hresp, -⟩ := raise_keeps t e
  exact ⟨hcfg.trans h.cfg, hin.trans h.hostIn, hresp.trans h.responses, htr ▸ h.trace⟩

/-- The state after one call. -/
theorem emit_draw_extends (s : State) (e : Event) : Extends s (s.draw.emit e) := ⟨rfl, rfl, rfl, [e], rfl, by simp⟩

/-- A continuation that touches nothing `Extends` speaks of. -/
def Silent (f : State → State) : Prop :=
  ∀ s, (f s).cfg = s.cfg ∧ (f s).hostIn = s.hostIn ∧ (f s).responses = s.responses ∧ (f s).trace = s.trace

theorem Silent.extends {f : State → State} (hf : Silent f) {s t : State} (h : Extends s t) : Extends s (f t) := by
  obtain ⟨a, b, c, d⟩ := hf t
  exact ⟨a.trans h.cfg, b.trans h.hostIn, c.trans h.responses, d ▸ h.trace⟩

theorem silent_goTo (p : Phase) : Silent (goTo p) := fun _ => ⟨rfl, rfl, rfl, rfl⟩
theorem silent_finish (r : Response) : Silent (finish · r) := fun _ => ⟨rfl, rfl, rfl, rfl⟩
theorem silent_finishInit : Silent finishInit := fun _ => ⟨rfl, rfl, rfl, rfl⟩
theorem silent_enterI8 : Silent enterI8 := fun _ => ⟨rfl, rfl, rfl, rfl⟩
theorem silent_enterFreq (wrap : FreqStep → Phase) (hz : Rat) : Silent (enterFreq wrap hz) := fun _ => ⟨rfl, rfl, rfl, rfl⟩

theorem writeStep_extends (s : State) (a : RegAddr) (v : Byte) {after : State → State} (h : Silent after) :
    Extends s (writeStep s a v after) := by
  cases ha : s.answer.ok
  · rw [writeStep_fail s a v after ha]; exact raise_extends _ (emit_draw_extends s _)
  · rw [writeStep_ok s a v after ha]; exact h.extends (emit_draw_extends s _)

theorem readModeStep_extends (s : State) (next : Phase) : Extends s (readModeStep s next) := by
  cases ha : s.answer.ok
  · rw [readModeStep_fail s next ha]; exact raise_extends _ (emit_draw_extends s _)
  · rw [readModeStep_ok s next ha]; exact ⟨rfl, rfl, rfl, _, rfl, by simp⟩

theorem delayStep_extends (s : State) {after : State → State} (h : Silent after) : Extends s (delayStep s after) := by
  cases ht : s.settleTimer with
  | none => rw [delayStep_start s after ht]; exact ⟨rfl, rfl, rfl, _, rfl, by simp⟩
  | some n => rw [delayStep_end s after n ht]; exact h.extends ⟨rfl, rfl, rfl, [], by simp, by simp⟩

theorem dutyStep_extends (s : State) {done : State → State} (h : Silent done) : Extends s (dutyStep done s) := by
  cases ha : s.answer.ok
  · rw [dutyStep_fail s done ha]; exact raise_extends _ (emit_draw_extends s _)
  · rw [dutyStep_ok s done ha]; exact h.extends ⟨rfl, rfl, rfl, _, rfl, by simp⟩

theorem openStep_extends (s : State) : Extends s (openStep s) := by
  cases ha : s.answer.ok
  · rw [openStep_fail s ha]; exact raise_extends _ (emit_draw_extends s _)
  · rw [openStep_ok s ha]; exact ⟨rfl, rfl, rfl, _, rfl, by simp⟩

theorem freqStep_extends (wrap : FreqStep → Phase) {done : State → State} (h : Silent done) (f : FreqStep) (s : State) :
    Extends s (freqStep wrap done f s) := by
  cases f
  · exact readModeStep_extends s _
  · exact writeStep_extends s _ _ (silent_goTo _)
  · exact writeStep_extends s _ _ (silent_goTo _)
  · exact writeStep_extends s _ _ (silent_goTo _)
  · exact delayStep_extends s (silent_goTo _)
  · exact writeStep_extends s _ _ (silent_goTo _)
  · exact h.extends ⟨rfl, rfl, rfl, [], by simp [State.clearFreq], by simp⟩

/-- One sequencer step emits at most one event and touches neither the parameters nor the host's side. -/
theorem seqStep_extends (s : State) : Extends s (seqStep s) := by
  cases h : s.phase with
  | IDLE => rw [seqStep_IDLE h]; exact ⟨rfl, rfl, rfl, [], by simp, by simp⟩
  | I1 => rw [seqStep_I1 h]; exact openStep_extends s
  | I2 => rw [seqStep_I2 h]; exact writeStep_extends s _ _ (silent_goTo _)
  | I3 => rw [seqStep_I3 h]; exact writeStep_extends s _ _ (silent_goTo _)
  | I4 => rw [seqStep_I4 h]; exact delayStep_extends s (silent_goTo _)
  | I5read => rw [seqStep_I5read h]; exact readModeStep_extends s _
  | I5write => rw [seqStep_I5write h]; exact writeStep_extends s _ _ fun _ => ⟨rfl, rfl, rfl, rfl⟩
  | I6 => rw [seqStep_I6 h]; exact delayStep_extends s (silent_enterFreq _ _)
  | I7 f => rw [seqStep_I7 f h]; exact freqStep_extends _ silent_enterI8 f s
  | I8 => rw [seqStep_I8 h]; exact dutyStep_extends s silent_finishInit
  | F f => rw [seqStep_F f h]; exact freqStep_extends _ (silent_finish _) f s
  | D1 => rw [seqStep_D1 h]; exact dutyStep_extends s (silent_finish _)
  | X1 => rw [seqStep_X1 h]; exact dutyStep_extends s (silent_goTo _)
  | X2 => rw [seqStep_X2 h]; exact ⟨rfl, rfl, rfl, [.busClose s.busHandle], rfl, by simp⟩

/-! ### Every command ends -/

/-- Sequencer steps left from a step of SETFREQ to its end, at most. -/
def FreqStep.left (running : Bool) : FreqStep → Nat
  | .F1 => 8
  | .F2 => 7
  | .F3 => 6
  | .F4 => 5
  | .F5 => if running then 3 else 4
  | .F6 => 2
  | .F7 => 1

/-- Sequencer steps left to the end of the command, at most; a settle delay takes two. -/
def Phase.left (running : Bool) : Phase → Nat
  | .IDLE => 0
  | .I1 => 18
  | .I2 => 17
  | .I3 => 16
  | .I4 => if running then 14 else 15
  | .I5read => 13
  | .I5write => 12
  | .I6 => if running then 10 else 11
  | .I7 f => f.left running + 1
  | .I8 => 1
  | .F f => f.left running
  | .D1 => 1
  | .X1 => 2
  | .X2 => 1

/-- Steps left in a state. -/
def State.left (s : State) : Nat := s.phase.left s.settleTimer.isSome

theorem raise_left (s : State) (e : Response) (h : s.phase ≠ .X1) : (raise s e).left = 0 := by
  cases hi : s.phase.inInit
  · rw [raise_other s e hi h]; rfl
  · rw [raise_inInit s e hi]; rfl

/-- A step of a command in progress brings its end nearer. -/
theorem seqStep_left (s : State) (h : s.phase ≠ .IDLE) : (seqStep s).left < s.left := by
  cases hp : s.phase with
  | IDLE => exact absurd hp h
  | X2 => rw [seqStep_X2 hp]; simp [State.left, hp, closeStep, Phase.left]
  | I1 =>
    rw [seqStep_I1 hp]
    cases ha : s.answer.ok
    · rw [openStep_fail s ha, raise_left _ _ (by simp [hp])]; simp [State.left, hp, Phase.left]
    · rw [openStep_ok s ha]; simp [State.left, hp, Phase.left]
  | I2 =>
    rw [seqStep_I2 hp]
    cases ha : s.answer.ok
    · rw [writeStep_fail _ _ _ _ ha, raise_left _ _ (by simp [hp])]; simp [State.left, hp, Phase.left]
    · rw [writeStep_ok _ _ _ _ ha]; simp [State.left, hp, Phase.left]
  | I3 =>
    rw [seqStep_I3 hp]
    cases ha : s.answer.ok
    · rw [writeStep_fail _ _ _ _ ha, raise_left _ _ (by simp [hp])]; simp [State.left, hp, Phase.left]
    · rw [writeStep_ok _ _ _ _ ha]; cases ht : s.settleTimer <;> simp [State.left, hp, ht, Phase.left]
  | I4 =>
    rw [seqStep_I4 hp]
    cases ht : s.settleTimer with
    | none => rw [delayStep_start _ _ ht]; simp [State.left, hp, ht, Phase.left]
    | some n => rw [delayStep_end _ _ n ht]; simp [State.left, hp, ht, Phase.left]
  | I5read =>
    rw [seqStep_I5read hp]
    cases ha : s.answer.ok
    · rw [readModeStep_fail _ _ ha, raise_left _ _ (by simp [hp])]; simp [State.left, hp, Phase.left]
    · rw [readModeStep_ok _ _ ha]; simp [State.left, hp, Phase.left]
  | I5write =>
    rw [seqStep_I5write hp]
    cases ha : s.answer.ok
    · rw [writeStep_fail _ _ _ _ ha, raise_left _ _ (by simp [hp])]; simp [State.left, hp, Phase.left]
    · rw [writeStep_ok _ _ _ _ ha]; cases ht : s.settleTimer <;> simp [State.left, hp, ht, Phase.left]
  | I6 =>
    rw [seqStep_I6 hp]
    cases ht : s.settleTimer with
    | none => rw [delayStep_start _ _ ht]; simp [State.left, hp, ht, Phase.left]
    | some n => rw [delayStep_end _ _ n ht]; simp [State.left, hp, ht, Phase.left, FreqStep.left]
  | I8 =>
    rw [seqStep_I8 hp]
    cases ha : s.answer.ok
    · rw [dutyStep_fail _ _ ha, raise_left _ _ (by simp [hp])]; simp [State.left, hp, Phase.left]
    · rw [dutyStep_ok _ _ ha]; simp [State.left, hp, Phase.left, finishInit]
  | D1 =>
    rw [seqStep_D1 hp]
    cases ha : s.answer.ok
    · rw [dutyStep_fail _ _ ha, raise_left _ _ (by simp [hp])]; simp [State.left, hp, Phase.left]
    · rw [dutyStep_ok _ _ ha]; simp [State.left, hp, Phase.left]
  | X1 =>
    rw [seqStep_X1 hp]
    cases ha : s.answer.ok
    · rw [dutyStep_fail _ _ ha, raise_X1 _ _ (by simp [hp])]; simp [State.left, hp, Phase.left]
    · rw [dutyStep_ok _ _ ha]; simp [State.left, hp, Phase.left]
  | I7 f =>
    rw [seqStep_I7 f hp]
    cases f <;> simp only [freqStep]
    case F5 =>
      cases ht : s.settleTimer with
      | none => rw [delayStep_start _ _ ht]; simp [State.left, hp, ht, Phase.left, FreqStep.left]
      | some n => rw [delayStep_end _ _ n ht]; simp [State.left, hp, ht, Phase.left, FreqStep.left]
    case F7 => simp [State.left, hp, Phase.left, FreqStep.left, enterI8]
    all_goals cases ha : s.answer.ok
    all_goals first
      | rw [readModeStep_fail _ _ ha, raise_left _ _ (by simp [hp])]
      | rw [writeStep_fail _ _ _ _ ha, raise_left _ _ (by simp [hp])]
      | rw [readModeStep_ok _ _ ha]
      | rw [writeStep_ok _ _ _ _ ha]
    all_goals cases ht : s.settleTimer <;> simp [State.left, hp, ht, Phase.left, FreqStep.left]
  | F f =>
    rw [seqStep_F f hp]
    cases f <;> simp only [freqStep]
    case F5 =>
      cases ht : s.settleTimer with
      | none => rw [delayStep_start _ _ ht]; simp [State.left, hp, ht, Phase.left, FreqStep.left]
      | some n => rw [delayStep_end _ _ n ht]; simp [State.left, hp, ht, Phase.left, FreqStep.left]
    case F7 => simp [State.left, hp, Phase.left, FreqStep.left]
    all_goals cases ha : s.answer.ok
    all_goals first
      | rw [readModeStep_fail _ _ ha, raise_left _ _ (by simp [hp])]
      | rw [writeStep_fail _ _ _ _ ha, raise_left _ _ (by simp [hp])]
      | rw [readModeStep_ok _ _ ha]
      | rw [writeStep_ok _ _ _ _ ha]
    all_goals cases ht : s.settleTimer <;> simp [State.left, hp, ht, Phase.left, FreqStep.left]

/-- Where nothing is left the sequencer is in IDLE. -/
theorem left_eq_zero (s : State) (h : s.left = 0) : s.phase = .IDLE := by
  unfold State.left at h
  cases hp : s.phase with
  | IDLE => rfl
  | I7 f => simp [hp, Phase.left] at h
  | F f => cases f <;> cases ht : s.settleTimer <;> simp [hp, ht, Phase.left, FreqStep.left] at h
  | _ => cases ht : s.settleTimer <;> simp [hp, ht, Phase.left] at h

/-- No command has more than `maxSeqSteps` steps left. -/
theorem left_le (s : State) : s.left ≤ maxSeqSteps := by
  unfold State.left maxSeqSteps
  cases hp : s.phase with
  | I7 f => cases f <;> cases ht : s.settleTimer <;> simp [Phase.left, FreqStep.left]
  | F f => cases f <;> cases ht : s.settleTimer <;> simp [Phase.left, FreqStep.left]
  | _ => cases ht : s.settleTimer <;> simp [Phase.left]

/-- As many steps as are left end in IDLE. -/
theorem seqSteps_ends : ∀ (n : Nat) (s : State), s.left ≤ n → (seqSteps n s).phase = .IDLE
  | 0, s, h => left_eq_zero s (by omega)
  | n + 1, s, h => by
    by_cases hp : s.phase = .IDLE
    · rw [seqSteps_of_IDLE hp]; exact hp
    · have := seqStep_left s hp
      exact seqSteps_ends n (seqStep s) (by omega)

/-- Every command run by the sequencer ends (70_reset_and_hazards.md R157). -/
theorem seqSteps_max_IDLE (s : State) : (seqSteps maxSeqSteps s).phase = .IDLE := seqSteps_ends _ s (left_le s)

/-! ### The answers to come -/

/-- The next `n` answers all succeed, or one of them is the first to fail. -/
theorem answersOk_or_failsAt (s : State) (n : Nat) : AnswersOk s n ∨ ∃ k, k < n ∧ FailsAt s k := by
  induction n with
  | zero => exact .inl fun k h => absurd h (Nat.not_lt_zero k)
  | succ n ih =>
    obtain h | ⟨k, hk, hf⟩ := ih
    · cases hn : (s.oracle.peek n).ok
      · exact .inr ⟨n, Nat.lt_succ_self n, h, hn⟩
      · refine .inl fun k hk => ?_
        obtain h' | rfl := Nat.lt_succ_iff_lt_or_eq.1 hk
        · exact h k h'
        · exact hn
    · exact .inr ⟨k, Nat.lt_succ_of_lt hk, hf⟩

end Sys2Proof.Machine
end

