-- ==== Sys2Proof/Tests/Slice0.lean ====
section
/-! SUPPORT. The model's own tests, expected values from 95_test_vectors.md or worked out from the rules named, and a
witness for the hypotheses of each obligation that has some. -/

namespace Sys2Proof.Tests

open Sys2Proof Sys2Proof.Machine

/-! ### WellFormed refuses what is ill-formed (30_encoding.md R54, R57, R58) -/

theorem test_wf_refuses_third_of_hertz : (Instr.setfreq (1 / 3)).wellFormed = false := by decide +kernel
theorem test_wf_refuses_too_large : (Instr.setfreq 524288).wellFormed = false := by decide +kernel
theorem test_wf_refuses_too_small : (Instr.setfreq (-524288 - 1 / 4096)).wellFormed = false := by decide +kernel
theorem test_wf_accepts_least : (Instr.setfreq (-524288)).wellFormed = true := by decide +kernel
theorem test_wf_refuses_legal_number_as_out_of_range : (Instr.setduty (.outOfRange 15) 0).wellFormed = false := by decide +kernel
theorem test_wf_refuses_sentinel_as_out_of_range : (Instr.setpw (.outOfRange (-1)) 0).wellFormed = false := by decide +kernel
theorem test_wf_refuses_wide_channel : (Instr.setpw (.outOfRange 128) 0).wellFormed = false := by decide +kernel
theorem test_wf_refuses_wide_negative_channel : (Instr.setduty (.outOfRange (-129)) 0).wellFormed = false := by decide +kernel
theorem test_wf_refuses_fine_percent : (Instr.setduty .all (1 / 8192)).wellFormed = false := by decide +kernel
theorem test_wf_refuses_fine_width : (Instr.setpw .all (1 / 8192)).wellFormed = false := by decide +kernel

/-- The constraints of R6 refuse two flags on one bit, a flag of two bits, and channel blocks past address 255. -/
theorem test_params_refused :
    Params.wf { Params.default with m1Sleep := 0x80 } = false ∧ Params.wf { Params.default with m2Och := 0x0C } = false ∧
    Params.wf { Params.default with regChBase := 0xC1 } = false ∧ Params.wf { Params.default with regChBase := 0xC0 } = true := by
  decide

/-! ### Decoding (95_test_vectors.md section 5), the words written out field by field from R55 to R59 -/

theorem test_decode_init : decodeTableWord 48 0b000000010000000100000000000000000000000001000000 = some (.init 1 0x40) := by
  decide +kernel
theorem test_decode_setfreq_negative : decodeTableWord 48 0x0200FFFCE000 = some (.setfreq (-50)) := by decide +kernel
theorem test_decode_getfreq : decodeTableWord 48 0x030000000000 = some .getfreq := by decide +kernel
theorem test_decode_setduty : decodeTableWord 48 0x040300007800 = some (.setduty (.single 3) (15 / 2)) := by decide +kernel
theorem test_decode_setduty_out_of_range : decodeTableWord 48 0x041000032000 = some (.setduty (.outOfRange 16) 50) := by
  decide +kernel
theorem test_decode_setpw_largest : decodeTableWord 48 0x050F7FFFFFFF = some (.setpw (.single 15) (524287 + 4095 / 4096)) := by
  decide +kernel
theorem test_decode_setpw_all : decodeTableWord 48 0x05FF005DC000 = some (.setpw .all 1500) := by decide +kernel
theorem test_decode_close : decodeTableWord 48 0x060000000000 = some .close := by decide +kernel
theorem test_decode_refuses_address_high : decode 0x010100010040 = .error .addressHigh := by decide +kernel
theorem test_decode_refuses_aux : decode 0x020100032000 = .error .auxNonzero := by decide +kernel
theorem test_decode_refuses_opd : decode 0x030000000001 = .error .opdNonzero := by decide +kernel
theorem test_decode_refuses_opcodes :
    decode 0x000000000000 = .error .opcode ∧ decode 0x070000000000 = .error .opcode ∧
    decode 0xFFFFFFFFFFFF = .error .opcode := by decide +kernel
theorem test_encode_setpw : encode (.setpw (.single 0) 1500) = 0x0500005DC000 := by decide +kernel

/-! ### States -/

/-- An answer `ok` with the byte read and the handle 7. -/
def good (b : Byte) : Answer := ⟨true, b, ⟨7⟩⟩
/-- A failure. -/
def bad : Answer := ⟨false, 0, ⟨0⟩⟩
/-- `n` good answers with the byte 0x21, then a failure. -/
def answers (n : Nat) : Oracle := ⟨List.replicate n (good 0x21) ++ [bad], 0⟩

/-- After reset, with answers queued. -/
def fresh (o : Oracle) : State := { State.reset with oracle := o }
/-- READY as INIT leaves it (41_initialization.md R79), with answers queued. -/
def ready (o : Oracle) : State :=
  { State.reset with
    life := .READY, busHandle := some ⟨7⟩, busNumber := some 1, devAddress := some 0x40
    frequencyHz := some (390625 / 7808), pulseWidthUs := some (499712 / 25), oracle := o }

/-- The state a step or command answers. -/
def next? : Host.Outcome State Fault Refusal → Option State
  | .next s => some s
  | .fault _ => none
  | .refused _ => none

/-- The events and the response word a command answers. -/
def told (o : Host.Outcome State Fault Refusal) : Option (List Event × Option RspWord) :=
  (next? o).map fun s => (s.trace, s.rsp.map Response.word)

/-! ### One command each (95_test_vectors.md sections 2 to 7) -/

/-- P2 command 1: the read of step I5 has the sleep bit set. -/
theorem test_init_wakes :
    (next? (exec (.init 1 0x40) (fresh ⟨List.replicate 3 (good 0x21) ++ good 0x31 :: List.replicate 7 (good 0x21), 0⟩))).map
      (fun s => ((s.trace[5]?, s.trace[9]?, s.trace.length), (s.life, s.frequencyHz, s.pulseWidthUs))) =
    some ((some (.write (some ⟨7⟩) 0x00 0x21 true), some (.write (some ⟨7⟩) 0xFE 0x79 true), 14),
      (.READY, some (390625 / 7808), some (499712 / 25))) := by
  decide +kernel
/-- Section 6: call 4 of INIT fails. -/
theorem test_init_fails_at_I5 :
    (next? (exec (.init 1 0x40) (fresh (answers 3)))).map
      (fun s => (s.life, s.busHandle, s.frequencyHz, s.trace.length, s.rsp.map Response.word)) =
    some (.FAILED, some ⟨7⟩, none, 5, some 0x02000100) := by decide +kernel
/-- Section 2.2, row 4. -/
theorem test_setfreq_restart_bit_read :
    told (exec (.setfreq 60) (ready ⟨List.replicate 5 (good 0xA1), 0⟩)) =
    some ([.read (some ⟨7⟩) 0x00 (some 0xA1), .write (some ⟨7⟩) 0x00 0xB1 true, .write (some ⟨7⟩) 0xFE 0x65 true,
      .write (some ⟨7⟩) 0x00 0xA1 true, .delay 500, .write (some ⟨7⟩) 0x00 0xA1 true], some 0) := by decide +kernel
/-- Section 2.2, failure at F3. -/
theorem test_setfreq_fails_at_F3 :
    (next? (exec (.setfreq 60) (ready (answers 2)))).map (fun s => (s.frequencyHz, s.trace.length, s.rsp.map Response.word)) =
    some (some (390625 / 7808), 3, some 0x02FE0200) := by decide +kernel
/-- P1: the value after INIT. -/
theorem test_getfreq_after_init :
    (next? (exec .getfreq (ready (answers 0)))).map (fun s => (s.rsp, s.trace)) =
    some (some (.okValue (390625 / 7808)), []) := by decide +kernel
/-- Section 6: GETFREQ before INIT. -/
theorem test_getfreq_unopened : told (exec .getfreq (fresh (answers 0))) = some ([], some 0x06000000) := by decide +kernel
/-- P2 command 5. -/
theorem test_setduty_negative :
    told (exec (.setduty (.single 15) (-5)) (ready (answers 1))) =
    some ([.block (some ⟨7⟩) 0x42 ⟨0x00, 0x00, 0x00, 0x10⟩ true], some 0) := by decide +kernel
/-- Section 3.4. -/
theorem test_setduty_fails :
    told (exec (.setduty (.single 3) (15 / 2)) (ready (answers 0))) =
    some ([.block (some ⟨7⟩) 0x12 ⟨0x00, 0x00, 0x33, 0x01⟩ false], some 0x02120300) := by decide +kernel
/-- Section 4: 19986 µs is the last ordinary count at prescale 121. -/
theorem test_setpw_last_ordinary :
    told (exec (.setpw (.single 0) 19986) (ready (answers 1))) =
    some ([.block (some ⟨7⟩) 0x06 ⟨0x00, 0x00, 0xFF, 0x0F⟩ true], some 0) := by decide +kernel
/-- Section 4: an exact tie rounds up. -/
theorem test_setpw_tie :
    told (exec (.setpw (.single 5) 61) (ready (answers 1))) =
    some ([.block (some ⟨7⟩) 0x1A ⟨0x00, 0x00, 0x0D, 0x00⟩ true], some 0) := by decide +kernel
/-- P1 command 3. -/
theorem test_close :
    (next? (exec .close (ready (answers 1)))).map (fun s => (s.life, s.busHandle, s.trace)) =
    some (.CLOSED, none, [.block (some ⟨7⟩) 0xFA ⟨0, 0, 0, 0⟩ true, .busClose (some ⟨7⟩)]) := by decide +kernel
/-- 45_shutdown.md R116. -/
theorem test_close_fails :
    (next? (exec .close (ready (answers 0)))).map (fun s => (s.life, s.busHandle, s.rsp.map Response.word)) =
    some (.CLOSED, none, some 0x02FA0300) := by decide +kernel

/-! ### Arithmetic at the edges (95_test_vectors.md sections 2.1, 3.1) -/

theorem test_prescale_smallest_operands :
    prescaleRaw (1 / 4096) = 24999999 ∧ prescaleRaw (-1 / 4096) = -25000001 ∧ prescaleRaw 4070 = 0 ∧
    prescaleOf 1744 = 3 ∧ prescaleOf (2379 / 100) = 255 := by decide +kernel
theorem test_steps_at_ties :
    stepsOf (-25 / 2048) = 0 ∧ stepsOf (-51 / 4096) = -1 ∧ stepsOf (25 / 2048) = 1 ∧ stepsOf (409549 / 4096) = 4095 ∧
    stepsOf (-524288) = -21474836 := by decide +kernel

/-! ### The ports -/

/-- The word placed for the next step is the one that runs. -/
theorem test_step_runs_placed_word : step (State.reset.withFetchWord 48 0x010100000040) = exec (.init 1 0x40) State.reset := by
  rfl
/-- 70_reset_and_hazards.md R141: reset inside a command begun before it. -/
theorem test_reset_inside_init :
    (next? (Sys2Proof.core.run 4 { fresh (answers 9) with hostIn := [.command 0x010100000040, .reset 2] })).map
      (fun s => (s.life, s.busHandle, s.phase, s.trace.length, s.rsp)) = some (.UNOPENED, none, .IDLE, 2, none) := by
  decide +kernel

/-! ### Witnesses: the hypotheses of the obligations can be met -/

theorem quiet_fresh (o : Oracle) : Quiet (fresh o) := ⟨rfl, rfl, rfl, rfl, rfl, rfl, rfl, rfl, rfl, rfl, rfl⟩
theorem quiet_ready (o : Oracle) : Quiet (ready o) := ⟨rfl, rfl, rfl, rfl, rfl, rfl, rfl, rfl, rfl, rfl, rfl⟩

/-- `n` queued good answers are `n` successful calls, and the one after them fails. -/
theorem failsAt_answers (s : State) (n : Nat) (h : s.oracle = answers n) : FailsAt s n := by
  constructor
  · intro k hk
    rw [h, Oracle.peek_queued _ k (good 0x21)]
    · rfl
    · simp only [answers]
      rw [List.getElem?_append_left (by simpa using hk)]
      simp [hk]
  · rw [h, Oracle.peek_queued _ n bad]
    · rfl
    · simp [answers]

theorem inv_ready (o : Oracle) : Inv (ready o) := by
  have hp : Programmed (ready o) := ⟨121, by decide, by decide, by simp [ready]; norm_num, by simp [ready]; norm_num⟩
  constructor <;> first
    | exact hp
    | exact (by decide : Params.default.wf = true)
    | exact fun _ => hp
    | exact fun _ => .inr hp
    | exact .inr hp
    | (simp [ready, State.reset, Phase.inInit, Phase.holdsM, Phase.holdsPrescale, Phase.holdsDuty]; done)
    | exact fun _ => ⟨by simp [ready], hp⟩

/-- DecodeOfEncode, EncodeOfDecode, LegalExactlyByOpcodeRow, IllegalExactlyByReservedFields. -/
theorem witness_encoding :
    (Instr.setduty (.outOfRange (-128)) (-524288)).wellFormed = true ∧
    (0x010100000040#48 &&& Cmd.mask .INIT = Cmd.matchBits .INIT) ∧ (0x07#8 : BitVec 8).toNat = 7 := by decide +kernel

/-- ChannelCodeMeaning, clause by clause at the ends of its ranges. -/
theorem witness_channel_codes :
    (0x0F#8).toInt = 15 ∧ (0x00#8).toInt = 0 ∧ (0xFF#8 = (0xFF : BitVec 8)) ∧ (0xFE#8).toInt < -1 ∧ 15 < (0x10#8).toInt := by
  decide

/-- WordOperandIntegerForms: the least operands of either sign, and the ends of the prescale range. -/
theorem witness_word_operands : (0x00000001#32).toInt ≠ 0 ∧ (0xFFFFFFFF#32).toInt ≠ 0 ∧ (3 : Int) ≤ 3 ∧ (255 : Int) ≤ 255 := by
  decide

/-- PrescaleFormula and PrescaleIntervals: a request for each clause, at the included ends. -/
theorem witness_prescale_intervals :
    (15625 / 32 : Rat) ≠ 0 ∧ prescaleRaw (15625 / 32) = 12 ∧ (-1 / 4096 : Rat) < 0 ∧ (0 : Rat) < 390625 / 16416 ∧
    (390625 / 16416 : Rat) < (390625 / 64) / (511 / 2) ∧
    (390625 / 64) / (((4 : Int) : Rat) + 3 / 2) < (390625 / 64) / (((4 : Int) : Rat) + 1 / 2) ∧
    ((390625 / 64 : Rat) / (9 / 2)) < 390625 / 224 ∧ (390625 / 224 : Rat) < 1744 := by decide +kernel

/-- PrescaleLaws: values meeting the premise of each clause. -/
theorem witness_prescale_laws :
    (0 : Rat) < 24 ∧ (24 : Rat) ≤ 1526 ∧ (-50 : Rat) < 0 ∧ prescaleRaw 50 = 121 ∧ (3 : Int) ≤ 121 ∧ (121 : Int) ≤ 255 := by
  decide +kernel

/-- FrequencyAndPeriodOfPrescale, PulseWidthClosedForm and PulseWidthThresholds: the ends of the prescale range. -/
theorem witness_prescale_range : (3 : Int) ≤ 3 ∧ (3 : Int) < 255 ∧ (255 : Int) ≤ 255 := by decide

/-- DutyByRangeOfPercent: a percentage in each range, at the included ends. -/
theorem witness_duty_ranges :
    (-51 / 4096 : Rat) < -25 / 2048 ∧ (-25 / 2048 : Rat) < 25 / 2048 ∧
    (2 * ((1 : Nat) : Rat) - 1) * (25 / 2048) ≤ (25 / 2048 : Rat) ∧
    (25 / 2048 : Rat) < (2 * ((1 : Nat) : Rat) + 1) * (25 / 2048) ∧
    (2 * ((4095 : Nat) : Rat) - 1) * (25 / 2048) ≤ (409549 / 4096 : Rat) ∧
    (409549 / 4096 : Rat) < (2 * ((4095 : Nat) : Rat) + 1) * (25 / 2048) ∧ (204775 / 2048 : Rat) ≤ 100 := by decide +kernel

/-- OnOffOfStepCount and BlockBytes: each case at its ends. -/
theorem witness_step_counts : (-1 : Int) < 0 ∧ (0 : Int) ≤ 0 ∧ (4095 : Int) ≤ 4095 ∧ (4095 : Int) < 4096 := by decide

/-- ModeByteBits, ChannelAddresses, PrescalerWrittenOnlyAsleep: the default parameters meet the constraints. -/
theorem witness_params :
    Params.default.wf = true ∧ Params.default.regPrescale ≠ Params.default.regMode1 ∧
    Params.default.regPrescale ≠ Params.default.regMode2 := by decide

/-- InitRunsItsFourteenEvents. -/
theorem witness_init_runs : Quiet (fresh (answers 11)) ∧ (fresh (answers 11)).life = .UNOPENED ∧ AnswersOk (fresh (answers 11)) 11 :=
  ⟨quiet_fresh _, rfl, (failsAt_answers _ 11 rfl).1⟩

/-- InitFailsPrecisely, at the first and the last call. -/
theorem witness_init_fails :
    (Quiet (fresh (answers 0)) ∧ (fresh (answers 0)).life = .UNOPENED ∧ (fresh (answers 0)).busHandle = none ∧
      (fresh (answers 0)).frequencyHz = none ∧ (fresh (answers 0)).pulseWidthUs = none ∧ FailsAt (fresh (answers 0)) 0) ∧
    (Quiet (fresh (answers 10)) ∧ (fresh (answers 10)).life = .UNOPENED ∧ (fresh (answers 10)).busHandle = none ∧
      (fresh (answers 10)).frequencyHz = none ∧ (fresh (answers 10)).pulseWidthUs = none ∧ FailsAt (fresh (answers 10)) 10) :=
  ⟨⟨quiet_fresh _, rfl, rfl, rfl, rfl, failsAt_answers _ 0 rfl⟩, ⟨quiet_fresh _, rfl, rfl, rfl, rfl, failsAt_answers _ 10 rfl⟩⟩

/-- SetfreqRunsItsSixEvents, of either sign. -/
theorem witness_setfreq_runs :
    Quiet (ready (answers 5)) ∧ (ready (answers 5)).life = .READY ∧ (2000 : Rat) ≠ 0 ∧ (-50 : Rat) ≠ 0 ∧
    AnswersOk (ready (answers 5)) 5 :=
  ⟨quiet_ready _, rfl, by norm_num, by norm_num, (failsAt_answers _ 5 rfl).1⟩

/-- SetfreqRealisedRange: one that answers OK, its request clamped. -/
theorem witness_setfreq_ok :
    Quiet (ready (answers 5)) ∧ (ready (answers 5)).life = .READY ∧
    ((next? (exec (.setfreq 2000) (ready (answers 5)))).bind State.rsp = some .ok) :=
  ⟨quiet_ready _, rfl, by decide +kernel⟩

/-- SetfreqFailsPrecisely, at the first and the last call. -/
theorem witness_setfreq_fails :
    Quiet (ready (answers 0)) ∧ FailsAt (ready (answers 0)) 0 ∧ Quiet (ready (answers 4)) ∧ FailsAt (ready (answers 4)) 4 ∧
    (ready (answers 4)).life = .READY ∧ (60 : Rat) ≠ 0 :=
  ⟨quiet_ready _, failsAt_answers _ 0 rfl, quiet_ready _, failsAt_answers _ 4 rfl, rfl, by norm_num⟩

/-- SetfreqZeroIsRefused, GetfreqAnswersStoredFrequency (READY; CLOSED, UNOPENED and FAILED), CloseOutsideReady. -/
theorem witness_getfreq :
    (ready (answers 0)).frequencyHz = some (390625 / 7808) ∧ (ready (answers 0)).life = .READY ∧
    Quiet { ready (answers 0) with life := .CLOSED } ∧ Quiet { ready (answers 0) with life := .FAILED } ∧
    Quiet { ready (answers 0) with life := .UNOPENED } :=
  ⟨rfl, rfl, ⟨rfl, rfl, rfl, rfl, rfl, rfl, rfl, rfl, rfl, rfl, rfl⟩, ⟨rfl, rfl, rfl, rfl, rfl, rfl, rfl, rfl, rfl, rfl, rfl⟩,
    ⟨rfl, rfl, rfl, rfl, rfl, rfl, rfl, rfl, rfl, rfl, rfl⟩⟩

/-- SetdutyWritesItsBlock, SetpwWritesItsBlock, BlockLandsAtFourAddresses, CloseZeroesAndReleases: a single channel and all. -/
theorem witness_block_runs :
    addrOf (ready (answers 1)).cfg (.single 15) = some 0x42 ∧ addrOf (ready (answers 1)).cfg .all = some 0xFA ∧
    (ready (answers 1)).pulseWidthUs = some (499712 / 25) ∧ ((ready (answers 1)).oracle.peek 0).ok = true :=
  ⟨by decide, by decide, rfl, rfl⟩

/-- BlockWriteFailureIsReported, CloseReleasesOnFailure. -/
theorem witness_block_fails :
    addrOf (ready (answers 0)).cfg (.single 0) = some 0x06 ∧ ((ready (answers 0)).oracle.peek 0).ok = false :=
  ⟨by decide, rfl⟩

/-- OutOfRangeChannelByPolicy, under each policy. -/
theorem witness_policies :
    (ready (answers 1)).cfg.chOorPolicy = .reject ∧
    Quiet { ready (answers 1) with cfg := { Params.default with chOorPolicy := .broadcast } } :=
  ⟨rfl, ⟨rfl, rfl, rfl, rfl, rfl, rfl, rfl, rfl, rfl, rfl, rfl⟩⟩

/-- LifecycleTable: a command for each clause. -/
theorem witness_lifecycle :
    Instr.cmd .close ≠ .INIT ∧ Instr.cmd (.init 1 0x40) = .INIT ∧ Instr.cmd .getfreq ≠ .CLOSE ∧ Instr.cmd .close = .CLOSE ∧
    Quiet { ready (answers 0) with life := .CLOSED } ∧ Quiet { fresh (answers 0) with life := .FAILED } ∧
    (Quiet (ready (answers 0)) ∧ (ready (answers 0)).life = .READY) ∧
    (Quiet (fresh (answers 0)) ∧ (fresh (answers 0)).life = .UNOPENED) :=
  ⟨by decide, by decide, by decide, by decide, ⟨rfl, rfl, rfl, rfl, rfl, rfl, rfl, rfl, rfl, rfl, rfl⟩,
    ⟨rfl, rfl, rfl, rfl, rfl, rfl, rfl, rfl, rfl, rfl, rfl⟩, ⟨quiet_ready _, rfl⟩, ⟨quiet_fresh _, rfl⟩⟩

/-- IllegalWordIsAnswered, in CLOSED. -/
theorem witness_illegal_word :
    Quiet { ready (answers 0) with life := .CLOSED, hostIn := [.command 0x070000000000] } ∧
    decode 0x070000000000 = .error .opcode :=
  ⟨⟨rfl, rfl, rfl, rfl, rfl, rfl, rfl, rfl, rfl, rfl, rfl⟩, by decide +kernel⟩

/-- StepRunsDecodedInstruction. -/
theorem witness_step : ∃ s w rest i, Quiet s ∧ s.hostIn = .command w :: rest ∧
    (∀ n rest', rest ≠ .reset n :: rest') ∧ decode w = .ok i :=
  ⟨{ fresh (answers 0) with hostIn := [.command 0x030000000000] }, 0x030000000000, [], .getfreq,
    ⟨rfl, rfl, rfl, rfl, rfl, rfl, rfl, rfl, rfl, rfl, rfl⟩, rfl,
    by simp, by decide +kernel⟩

/-- PortAcceptsOneAtATime: a busy state, and one with a response to deliver and no reset asserted. -/
theorem witness_port :
    { ready (answers 5) with phase := .F .F1 }.phase ≠ .IDLE ∧ { ready (answers 5) with rsp := some .ok }.rsp = some .ok ∧
    (∀ n rest, { ready (answers 5) with rsp := some .ok }.hostIn ≠ .reset n :: rest) :=
  ⟨by simp, rfl, by simp [ready, State.reset]⟩

/-- StateAfterError: states of a run whose commands end in each kind of error. -/
theorem witness_errors :
    Inv State.reset ∧ State.reset.accepts = true ∧ Inv (ready (answers 0)) ∧ (ready (answers 0)).accepts = true ∧
    ((next? (exec (.init 1 0x40) (fresh (answers 0)))).bind State.rsp = some .busOpenError) ∧
    ((next? (exec .close (ready (answers 0)))).bind State.rsp = some (.registerIOError 0xFA .blockwrite)) ∧
    ((next? (exec (.setduty (.outOfRange 16) 50) (ready (answers 0)))).bind State.rsp = some .invalidChannelError) := by
  refine ⟨?_, by decide, inv_ready _, by decide, by decide +kernel, by decide +kernel, by decide +kernel⟩
  constructor <;> first
    | exact (by decide : Params.default.wf = true)
    | simp [State.reset, Phase.inInit, Phase.holdsM, Phase.holdsPrescale, Phase.holdsDuty]

/-- FailedCallEndsTheTrace: a failed call with events before it, and CLOSE's with `Close` after it. -/
theorem witness_failed_calls :
    ((next? (exec (.setfreq 60) (ready (answers 1)))).map State.trace =
      some ([] ++ [.read (some ⟨7⟩) 0x00 (some 0x21)] ++ .write (some ⟨7⟩) 0x00 0x31 false :: [])) ∧
    ((next? (exec .close (ready (answers 0)))).map State.trace =
      some ([] ++ [] ++ .block (some ⟨7⟩) 0xFA ⟨0, 0, 0, 0⟩ false :: [.busClose (some ⟨7⟩)])) ∧
    Event.failed (.write (some ⟨7⟩) 0x00 0x31 false) = true := by decide +kernel

/-- CommandFrame, RegisterSpaceFrame, EveryCommandAnswersOnce: a command that runs, and an address outside what it writes. -/
theorem witness_frames :
    Quiet (ready (answers 5)) ∧ (next? (exec (.setfreq 60) (ready (answers 5)))).isSome = true ∧
    (0x06 : RegAddr) ≠ (ready (answers 5)).cfg.regMode1 ∧ (0x06 : RegAddr) ≠ (ready (answers 5)).cfg.regPrescale ∧
    inBlock 0x06 0x0A = false ∧ inBlock 0x06 0x05 = false ∧ inBlock 0x06 0x09 = true :=
  ⟨quiet_ready _, rfl, by decide, by decide, by decide, by decide, by decide⟩

/-- PrescalerWrittenOnlyAsleep and DelaysAndCallsPerCommand: SETFREQ's trace holds such a write. -/
theorem witness_prescaler_write :
    (next? (exec (.setfreq 50) (ready (answers 5)))).map State.trace =
      some ([] ++ [.read (some ⟨7⟩) 0x00 (some 0x21), .write (some ⟨7⟩) 0x00 0x31 true] ++
        .write (some ⟨7⟩) 0xFE 0x79 true :: [.write (some ⟨7⟩) 0x00 0x21 true, .delay 500, .write (some ⟨7⟩) 0x00 0xA1 true]) ∧
    Event.writesByte 0xFE (.write (some ⟨7⟩) 0xFE 0x79 true) = true := by decide +kernel

/-- CallsGoThroughTheHandle, FrequencyRegistersConsistent, LifecycleTransitions, ParametersStayLegal, StepKeepsInvariant,
TraceOnlyGrows: a state of a run in READY, and a step from it. -/
theorem witness_run_state :
    Inv (ready (answers 5)) ∧ (ready (answers 5)).accepts = true ∧ (ready (answers 5)).life = .READY ∧
    (next? (step (ready (answers 5)))).map State.life = some .READY :=
  ⟨inv_ready _, rfl, rfl, rfl⟩

/-- ResetInputInAnyState. -/
theorem witness_reset_input : { ready (answers 5) with phase := .F .F3, hostIn := [.reset 0] }.hostIn = .reset 0 :: [] := rfl

/-- ResetCutsACommandShort and SteppingReachesWholeCommand. -/
theorem witness_reset_later :
    Quiet { fresh (answers 11) with hostIn := [.command 0x010100000040, .reset 18] } ∧
    decode 0x010100000040 = .ok (.init 1 0x40) :=
  ⟨⟨rfl, rfl, rfl, rfl, rfl, rfl, rfl, rfl, rfl, rfl, rfl⟩, by decide +kernel⟩

end Sys2Proof.Tests
end

section
/-! SUPPORT. What `decodeChannel` answers, one equation for each case of 30_encoding.md R58. -/

namespace Sys2Proof

theorem decodeChannel_of_toInt_eq_val {aux : BitVec 8} {c : Fin 16} (h : aux.toInt = (c.val : Int)) :
    decodeChannel aux = .single c := by
  have hc : c.val < 16 := c.isLt
  have inRange : 0 ≤ aux.toInt ∧ aux.toInt ≤ 15 := by omega
  rw [decodeChannel, if_pos inRange, h, Int.toNat_natCast, Fin.ofNat_val_eq_self]

theorem decodeChannel_of_toInt_eq_neg_one {aux : BitVec 8} (h : aux.toInt = -1) : decodeChannel aux = .all := by
  rw [decodeChannel, if_neg (by omega), if_pos h]

theorem decodeChannel_of_outOfRange {aux : BitVec 8} (h : aux.toInt < -1 ∨ 15 < aux.toInt) :
    decodeChannel aux = .outOfRange aux.toInt := by
  rw [decodeChannel, if_neg (by omega), if_neg (by omega)]

/-- Settles O6: one equation of `decodeChannel` for each clause, 0xFF being the code whose sign extension is -1. -/
theorem channelCodeMeaning : Obligations.ChannelCodeMeaning := by
  intro aux
  refine ⟨fun _ => decodeChannel_of_toInt_eq_val, ?_, decodeChannel_of_outOfRange⟩
  rintro rfl
  exact decodeChannel_of_toInt_eq_neg_one (by decide)

end Sys2Proof
end

section
/-! SUPPORT. The four fields of a response word (30_encoding.md R63), read back from the word of any response. -/

namespace Sys2Proof.Machine

/-- The bytes of four in a row, at bits 31:24, 23:16, 15:8 and 7:0, the places of the fields of R63. -/
theorem extractLsb'_four_bytes (b3 b2 b1 b0 : BitVec 8) :
    (b3 ++ b2 ++ b1 ++ b0).extractLsb' 24 8 = b3 ∧ (b3 ++ b2 ++ b1 ++ b0).extractLsb' 16 8 = b2 ∧
    (b3 ++ b2 ++ b1 ++ b0).extractLsb' 8 8 = b1 ∧ (b3 ++ b2 ++ b1 ++ b0).extractLsb' 0 8 = b0 := by
  refine ⟨?_, ?_, BitVec.extractLsb'_append_eq_of_le (by decide) |>.trans BitVec.extractLsb'_append_eq_right,
    BitVec.extractLsb'_append_eq_right⟩
  · rw [BitVec.extractLsb'_append_eq_of_le (by decide), BitVec.extractLsb'_append_eq_of_le (by decide)]
    exact BitVec.extractLsb'_append_eq_left
  · rw [BitVec.extractLsb'_append_eq_of_le (by decide), BitVec.extractLsb'_append_eq_of_le (by decide)]
    exact BitVec.extractLsb'_append_eq_right

theorem Response.word_fields (r : Response) :
    r.word.extractLsb' 24 8 = r.status ∧ r.word.extractLsb' 16 8 = r.regField ∧
    r.word.extractLsb' 8 8 = r.opkField ∧ r.word.extractLsb' 0 8 = 0 :=
  extractLsb'_four_bytes _ _ _ _

/-- GETFREQ's value is not in the word: it travels beside it (30_encoding.md R63). -/
theorem Response.word_okValue (f : Rat) : (Response.okValue f).word = Response.ok.word := rfl

/-- Settles O55: the words of responses with no failed call compute; those of `registerIOError` have the fields of
`Response.word_fields`. -/
theorem responseWord : Obligations.ResponseWord := by
  refine ⟨rfl, fun f => ⟨Response.word_okValue f, rfl⟩, rfl, fun a k => ?_, rfl, rfl, rfl, rfl⟩
  obtain ⟨hstatus, hreg, hopk, hzero⟩ := (Response.registerIOError a k).word_fields
  refine ⟨hstatus, hreg, hopk.trans ?_, hzero⟩
  cases k <;> rfl

end Sys2Proof.Machine
end

section
/-! SUPPORT. The arithmetic of the prescaler (42_frequency.md R82 to R85) as linear facts: where the raw prescale lies by
where the quotient `K / hz` lies, and the realised frequency and period as a quotient and a multiple of `p + 1`. -/

namespace Sys2Proof.Machine

/-- `K` of R81 as a fraction in lowest terms. -/
theorem baseHz_eq : Config.baseHz = 390625 / 64 := by
  norm_num [Config.baseHz, Config.oscHz, Config.stepsPerPeriod]

theorem prescaleRaw_eq_floor (hz : Rat) : prescaleRaw hz = ((390625 / 64 : Rat) / hz - 1 / 2).floor := by
  have halves : (390625 / 64 : Rat) / hz - 1 + 1 / 2 = 390625 / 64 / hz - 1 / 2 := by ring
  rw [prescaleRaw, prescaleFloat, rhu, baseHz_eq, halves]

theorem prescaleRaw_lt_iff {hz : Rat} {n : Int} : prescaleRaw hz < n ↔ (390625 / 64 : Rat) / hz < n + 1 / 2 := by
  rw [prescaleRaw_eq_floor, Rat.floor_lt_iff, sub_lt_iff_lt_add]

theorem le_prescaleRaw_iff {hz : Rat} {n : Int} : n ≤ prescaleRaw hz ↔ (n : Rat) + 1 / 2 ≤ 390625 / 64 / hz := by
  rw [← not_lt, prescaleRaw_lt_iff, not_lt]

/-- A quotient is below a positive bound for a large positive divisor and for every negative one. -/
theorem div_lt_iff_lt_or_neg {a b c : Rat} (ha : 0 < a) (hb : b ≠ 0) (hc : 0 < c) : a / b < c ↔ a / c < b ∨ b < 0 := by
  rcases lt_or_gt_of_ne hb with hneg | hpos
  · exact iff_of_true ((div_neg_of_pos_of_neg ha hneg).trans hc) (.inr hneg)
  · rw [div_lt_comm₀ hpos hc, or_iff_left hpos.not_gt]

theorem prescaleRaw_nonpos_iff {hz : Rat} (h : hz ≠ 0) :
    prescaleRaw hz ≤ 0 ↔ (390625 / 64) / (3 / 2) < hz ∨ hz < 0 := by
  have belowOne : prescaleRaw hz ≤ 0 ↔ prescaleRaw hz < 1 := Int.lt_add_one_iff.symm
  have threeHalves : ((1 : Int) : Rat) + 1 / 2 = 3 / 2 := by norm_num
  rw [belowOne, prescaleRaw_lt_iff, threeHalves]
  exact div_lt_iff_lt_or_neg (by norm_num) h (by norm_num)

theorem prescaleRaw_le_neg_one {hz : Rat} (h : hz < 0) : prescaleRaw hz ≤ -1 := by
  have quotientNeg : (390625 / 64 : Rat) / hz < 0 := div_neg_of_pos_of_neg (by norm_num) h
  have rawNeg : prescaleRaw hz < 0 := prescaleRaw_lt_iff.mpr (quotientNeg.trans (by norm_num))
  omega

/-- `clamp` of R83 with the values of `PRE_MIN` and `PRE_MAX` put in. -/
theorem prescaleOf_eq_ite (hz : Rat) :
    prescaleOf hz = if prescaleRaw hz < 3 then 3 else if prescaleRaw hz > 255 then 255 else prescaleRaw hz := rfl

/-- Settles O9: the sign facts follow from where `K / hz` lies against `3 / 2` and `0`. -/
theorem prescaleFormula : Obligations.PrescaleFormula := fun hz hne =>
  ⟨prescaleRaw_eq_floor hz, prescaleRaw_nonpos_iff hne, prescaleRaw_le_neg_one, prescaleOf_eq_ite hz⟩

theorem freqOf_eq (p : Int) : freqOf p = 390625 / (64 * ((p : Rat) + 1)) := by
  rw [freqOf, baseHz_eq, div_div]

theorem periodUsOf_eq (p : Int) : periodUsOf p = 4096 * ((p : Rat) + 1) / 25 := by
  rw [periodUsOf, freqOf_eq, Config.usPerS, div_div_eq_mul_div]
  ring

/-- One step of the period is `p + 1` ticks of the oscillator, 25 to a microsecond. -/
theorem periodUsOf_div_steps (p : Int) : periodUsOf p / 4096 = ((p : Rat) + 1) / 25 := by
  rw [periodUsOf_eq]
  ring

/-- Any prescale above -1 will do, not only one in 3..255: the divisor `p + 1` has to be positive. -/
theorem freqOf_lt_freqOf {p q : Int} (hp : -1 < p) (hpq : p < q) : freqOf q < freqOf p := by
  have hpos : (0 : Rat) < p + 1 := by exact_mod_cast neg_lt_iff_pos_add.mp hp
  have hlt : (p : Rat) + 1 < q + 1 := by gcongr
  rw [freqOf, freqOf, baseHz_eq]
  exact div_lt_div_of_pos_left (by norm_num) hpos hlt

theorem periodUsOf_lt_periodUsOf {p q : Int} (hpq : p < q) : periodUsOf p < periodUsOf q := by
  rw [periodUsOf_eq, periodUsOf_eq]
  gcongr

/-- Settles O11: the closed forms of R85, whose monotonicity needs only `p + 1` positive. -/
theorem frequencyAndPeriodOfPrescale : Obligations.FrequencyAndPeriodOfPrescale := by
  refine ⟨fun p _ _ => ⟨freqOf_eq p, periodUsOf_eq p, rfl, periodUsOf_div_steps p⟩, fun p q hp hpq _ => ?_⟩
  exact ⟨freqOf_lt_freqOf (by omega) hpq, periodUsOf_lt_periodUsOf hpq⟩

end Sys2Proof.Machine
end

section
/-! SUPPORT. What `onOffOf` answers, one equation for each case of 43_duty_cycle.md R98. -/

namespace Sys2Proof.Machine

theorem onOffOf_of_neg {n : Int} (h : n < 0) : onOffOf n = (0, 4096) := if_pos h

theorem onOffOf_of_gt {n : Int} (h : 4095 < n) : onOffOf n = (4096, 0) := by
  rw [onOffOf, if_neg (by omega), if_pos h]

theorem onOffOf_of_mem_range {n : Int} (h0 : 0 ≤ n) (h : n ≤ 4095) : onOffOf n = (0, BitVec.ofInt 13 n) := by
  rw [onOffOf, if_neg (by omega), if_neg (by omega)]

/-- Thirteen bits hold every ordinary count. -/
theorem toNat_ofInt_stepCount {n : Int} (h0 : 0 ≤ n) (h : n ≤ 4095) : ((BitVec.ofInt 13 n).toNat : Int) = n := by
  rw [BitVec.toNat_ofInt]
  omega

/-- Settles O13: one equation of `onOffOf` for each case, and an ordinary count survives its 13 bits. -/
theorem onOffOfStepCount : Obligations.OnOffOfStepCount := by
  refine fun n => ⟨onOffOf_of_neg, onOffOf_of_gt, fun h0 h => ?_⟩
  rw [onOffOf_of_mem_range h0 h]
  exact ⟨rfl, toNat_ofInt_stepCount h0 h⟩

end Sys2Proof.Machine
end

section
/-! SUPPORT. How the channel operand acts on SETDUTY and SETPW (43_duty_cycle.md R101, R104; 44_pulse_width.md R110): only
through `addrOf`, and a channel with no address is refused before any sequencer step. -/

namespace Sys2Proof.Machine

theorem addrOf_outOfRange_reject {c : Params} (h : c.chOorPolicy = .reject) (n : Int) :
    addrOf c (.outOfRange n) = none := by
  simp [addrOf, h]

theorem addrOf_outOfRange_broadcast {c : Params} (h : c.chOorPolicy = .broadcast) (n : Int) :
    addrOf c (.outOfRange n) = addrOf c .all := by
  simp [addrOf, h]

/-- A command refused on entry leaves the sequencer in IDLE: its whole run is the answer. -/
theorem runCommand_of_respond {begin : State → State} {s : State} {r : Response} (q : Quiet s)
    (h : begin s = respond s r) : runCommand begin s = respond s r := by
  rw [runCommand_accepts begin q.accepts, h]
  exact seqSteps_of_IDLE (s := respond s r) q.phase _

theorem runCommand_congr {begin begin' : State → State} {s : State} (h : begin s = begin' s) :
    runCommand begin s = runCommand begin' s := by
  rw [runCommand, runCommand, h]

section Channel
variable {s : State} {ch ch' : Channel} {x : Rat}

theorem beginSetduty_of_addrOf_none (hlife : s.life = .READY) (h : addrOf s.cfg ch = none) :
    beginSetduty ch x s = respond s .invalidChannelError := by
  simp [beginSetduty, lifecycle, hlife, h]

theorem beginSetpw_of_addrOf_none (hlife : s.life = .READY) (h : addrOf s.cfg ch = none) :
    beginSetpw ch x s = respond s .invalidChannelError := by
  simp [beginSetpw, lifecycle, hlife, h]

theorem beginSetduty_congr (h : addrOf s.cfg ch = addrOf s.cfg ch') : beginSetduty ch x s = beginSetduty ch' x s := by
  rw [beginSetduty, beginSetduty, h]

theorem beginSetpw_congr (h : addrOf s.cfg ch = addrOf s.cfg ch') : beginSetpw ch x s = beginSetpw ch' x s := by
  rw [beginSetpw, beginSetpw, h]

/-- A channel with no address is refused by SETDUTY, and only the response port changes. -/
theorem exec_setduty_of_addrOf_none (q : Quiet s) (hlife : s.life = .READY) (h : addrOf s.cfg ch = none) :
    exec (.setduty ch x) s = .next (respond s .invalidChannelError) :=
  congrArg Host.Outcome.next (runCommand_of_respond q (beginSetduty_of_addrOf_none hlife h))

theorem exec_setpw_of_addrOf_none (q : Quiet s) (hlife : s.life = .READY) (h : addrOf s.cfg ch = none) :
    exec (.setpw ch x) s = .next (respond s .invalidChannelError) :=
  congrArg Host.Outcome.next (runCommand_of_respond q (beginSetpw_of_addrOf_none hlife h))

/-- SETDUTY takes two channels with one address for the same, in any state. -/
theorem exec_setduty_congr (h : addrOf s.cfg ch = addrOf s.cfg ch') : exec (.setduty ch x) s = exec (.setduty ch' x) s :=
  congrArg Host.Outcome.next (runCommand_congr (beginSetduty_congr h))

theorem exec_setpw_congr (h : addrOf s.cfg ch = addrOf s.cfg ch') : exec (.setpw ch x) s = exec (.setpw ch' x) s :=
  congrArg Host.Outcome.next (runCommand_congr (beginSetpw_congr h))

end Channel

/-- Settles O28: the policy decides whether an out-of-range channel has no address, and is refused, or the address of
`All`, and is taken for it. -/
theorem outOfRangeChannelByPolicy : Obligations.OutOfRangeChannelByPolicy := by
  refine fun s n x q hlife => ⟨fun hpolicy => ?reject, fun hpolicy => ?broadcast⟩
  case reject =>
    have noAddress := addrOf_outOfRange_reject hpolicy n
    exact ⟨exec_setduty_of_addrOf_none q hlife noAddress, exec_setpw_of_addrOf_none q hlife noAddress⟩
  case broadcast =>
    have sameAddress := addrOf_outOfRange_broadcast hpolicy n
    exact ⟨exec_setduty_congr sameAddress, exec_setpw_congr sameAddress⟩

end Sys2Proof.Machine
end

section
/-! SUPPORT. CLOSE (45_shutdown.md R114 to R116): what the lifecycle check answers outside READY, and the two sequencer steps
of a CLOSE that runs. Step X2 is the same whatever became of X1; `deferred` alone carries X1's error across it. -/

namespace Sys2Proof.Machine

/-! ### Outside READY -/

theorem beginClose_of_lifecycle {s : State} {r : Response} (h : lifecycle s.life .CLOSE = some r) :
    beginClose s = respond s r := by
  simp [beginClose, h]

/-- Where the lifecycle table answers CLOSE itself, only the response port changes. -/
theorem exec_close_of_lifecycle {s : State} {r : Response} (q : Quiet s) (h : lifecycle s.life .CLOSE = some r) :
    exec .close s = .next { s with rsp := some r } :=
  congrArg Host.Outcome.next (runCommand_of_respond q (beginClose_of_lifecycle h))

/-- Settles O32: the entries of R139 for CLOSE outside READY. -/
theorem closeOutsideReady : Obligations.CloseOutsideReady := by
  refine fun s q => ⟨fun hlife => ?closed, fun hlife => ?refused⟩
  case closed => exact exec_close_of_lifecycle q (by rw [hlife, lifecycle])
  case refused =>
    apply exec_close_of_lifecycle q
    rcases hlife with hlife | hlife <;> rw [hlife, lifecycle]

/-! ### In READY -/

/-- A run that has come to IDLE after `k` steps stays as it is for the steps that are left. -/
theorem seqSteps_of_ended {s : State} {k n : Nat} (hk : k ≤ n) (h : (seqSteps k s).phase = .IDLE) :
    seqSteps n s = seqSteps k s := by
  rw [← Nat.add_sub_cancel' hk, seqSteps_add, seqSteps_of_IDLE h]

theorem rhu_zero : rhu 0 = 0 := by
  norm_num [rhu, Rat.floor_def]

/-- 0 % is the zero block (43_duty_cycle.md R97, R98, R100). -/
theorem dutyBlock_zero : dutyBlock 0 = ⟨0, 0, 0, 0⟩ := by
  have steps : stepsOf 0 = 0 := by rw [stepsOf, zero_mul, zero_div, rhu_zero]
  rw [dutyBlock, steps, onOffOf_of_mem_range (by decide) (by decide)]
  decide

/-- A failed D1 right after SETDUTY's entry: the block is that of the percentage, at the address entered with. -/
theorem dutyStep_enterDuty_fail {s : State} (p : Phase) (a : RegAddr) (x : Rat) (done : State → State)
    (h : (s.oracle.peek 0).ok = false) :
    dutyStep done (enterDuty p a x s) =
      raise ((enterDuty p a x s).draw.emit (.block s.busHandle a (dutyBlock x) false)) (.registerIOError a .blockwrite) :=
  dutyStep_fail _ _ h

theorem exec_close_of_READY {s : State} (q : Quiet s) (hlife : s.life = .READY) :
    exec .close s = .next (seqSteps maxSeqSteps (enterDuty .X1 s.cfg.regAllBase 0 s)) := by
  have enters : beginClose s = enterDuty .X1 s.cfg.regAllBase 0 s := by rw [beginClose, hlife, lifecycle]
  rw [exec, execClose, runCommand_accepts beginClose q.accepts, enters]

/-- The state between X1 and X2 when X1's block write failed. -/
def closeX1Failed (s : State) : State :=
  goTo .X2 { (s.draw.emit (.block s.busHandle s.cfg.regAllBase ⟨0, 0, 0, 0⟩ false)).clearDuty with
    deferred := some (.registerIOError s.cfg.regAllBase .blockwrite) }

/-- Step X1 that fails goes on to X2 and does not end the command (R116). -/
theorem seqStep_X1_fail {s : State} (h : (s.oracle.peek 0).ok = false) :
    seqStep (enterDuty .X1 s.cfg.regAllBase 0 s) = closeX1Failed s := by
  rw [seqStep_X1 (enterDuty_phase ..), dutyStep_enterDuty_fail _ _ _ _ h, dutyBlock_zero, raise_X1 _ _ (by simp)]
  rfl

theorem seqStep_closeX1Failed {s : State} (q : Quiet s) :
    seqStep (closeX1Failed s) = { s with
      life := .CLOSED
      busHandle := none
      oracle := s.oracle.skip 1
      trace := s.trace ++ [.block s.busHandle s.cfg.regAllBase ⟨0, 0, 0, 0⟩ false, .busClose s.busHandle]
      rsp := some (.registerIOError s.cfg.regAllBase .blockwrite) } := by
  rw [seqStep_X2 (s := closeX1Failed s) rfl, closeStep]
  ext1 <;> simp [closeX1Failed, busClose, q.phase, q.m, q.prescale, q.percent, q.steps, q.onStep, q.offStep, q.target,
    q.deferred, q.settleTimer]

/-- Settles O31: X1 fails and X2 still runs, and the command has ended after these two steps. -/
theorem closeReleasesOnFailure : Obligations.CloseReleasesOnFailure := by
  intro s q hlife hfail
  have twoSteps := (congrArg seqStep (seqStep_X1_fail hfail)).trans (seqStep_closeX1Failed q)
  have ended : (seqSteps 2 (enterDuty .X1 s.cfg.regAllBase 0 s)).phase = .IDLE :=
    (congrArg State.phase twoSteps).trans q.phase
  rw [exec_close_of_READY q hlife, seqSteps_of_ended (by decide) ended]
  exact congrArg Host.Outcome.next twoSteps

end Sys2Proof.Machine
end

section
/-! SUPPORT. Where a command is answered on entry: by the lifecycle check (60_exceptions.md R139), said once for every
command, or by the operand check of SETFREQ behind it (R123, R125). -/

namespace Sys2Proof.Machine

/-- A whole command, whichever it is, is its checks and entry run to the response. -/
theorem exec_eq_runCommand (i : Instr) (s : State) : exec i s = .next (runCommand (beginCommand i) s) := by
  cases i <;> rfl

theorem beginCommand_of_lifecycle {i : Instr} {s : State} {r : Response} (h : lifecycle s.life i.cmd = some r) :
    beginCommand i s = respond s r := by
  cases i <;> rw [Instr.cmd] at h
  case init => rw [beginCommand, beginInit, h]
  case setfreq => rw [beginCommand, beginSetfreq, h]
  case getfreq => rw [beginCommand, beginGetfreq, h]
  case setduty => rw [beginCommand, beginSetduty, h]
  case setpw => rw [beginCommand, beginSetpw, h]
  case close => exact beginClose_of_lifecycle h

/-- Where the lifecycle table answers a command itself, only the response port changes. -/
theorem exec_of_lifecycle {i : Instr} {s : State} {r : Response} (q : Quiet s) (h : lifecycle s.life i.cmd = some r) :
    exec i s = .next { s with rsp := some r } :=
  (exec_eq_runCommand i s).trans
    (congrArg Host.Outcome.next (runCommand_of_respond q (beginCommand_of_lifecycle h)))

/-! ### The rows of the table -/

theorem lifecycle_UNOPENED {c : Cmd} (h : c ≠ .INIT) : lifecycle .UNOPENED c = some .illegalCommandError := by
  cases c with
  | INIT => exact absurd rfl h
  | _ => rfl

theorem lifecycle_CLOSED {c : Cmd} (h : c ≠ .CLOSE) : lifecycle .CLOSED c = some .driverClosedError := by
  cases c with
  | CLOSE => exact absurd rfl h
  | _ => rfl

theorem lifecycle_FAILED (c : Cmd) : lifecycle .FAILED c = some .illegalCommandError := by
  cases c <;> rfl

theorem lifecycle_READY {c : Cmd} (h : c ≠ .INIT) : lifecycle .READY c = none := by
  cases c with
  | INIT => exact absurd rfl h
  | _ => rfl

/-! ### The operand check of SETFREQ -/

theorem beginSetfreq_zero {s : State} (hlife : s.life = .READY) :
    beginSetfreq 0 s = respond s .invalidOperandError := by
  rw [beginSetfreq, hlife, lifecycle, if_pos rfl]

/-- Settles O22: the operand check answers before SETFREQ enters its first step. -/
theorem setfreqZeroIsRefused : Obligations.SetfreqZeroIsRefused := fun _ q hlife =>
  congrArg Host.Outcome.next (runCommand_of_respond q (beginSetfreq_zero hlife))

end Sys2Proof.Machine
end

section
/-! SUPPORT. A command that the lifecycle check lets run never ends with a refusal (60_exceptions.md R139): an invariant of
the sequencer from the command's entry to its response. -/

namespace Sys2Proof.Machine

/-- The response is neither of the two refusals of the lifecycle table (60_exceptions.md R139). -/
def Response.NotRefusal (r : Response) : Prop := r ≠ .illegalCommandError ∧ r ≠ .driverClosedError

theorem notRefusal_ok : Response.NotRefusal .ok := ⟨nofun, nofun⟩
theorem notRefusal_okValue (f : Rat) : Response.NotRefusal (.okValue f) := ⟨nofun, nofun⟩
theorem notRefusal_busOpenError : Response.NotRefusal .busOpenError := ⟨nofun, nofun⟩
theorem notRefusal_registerIOError (a : RegAddr) (k : OpKind) : Response.NotRefusal (.registerIOError a k) :=
  ⟨nofun, nofun⟩
theorem notRefusal_invalidChannelError : Response.NotRefusal .invalidChannelError := ⟨nofun, nofun⟩
theorem notRefusal_invalidOperandError : Response.NotRefusal .invalidOperandError := ⟨nofun, nofun⟩

/-- An error that CLOSE keeps for its end (45_shutdown.md R116) is no refusal. -/
def DefersNoRefusal (s : State) : Prop := ∀ r ∈ s.deferred, r.NotRefusal

/-- The command in progress, or ended just now, is not refused: what it may keep for its end is no refusal, and once it is
in IDLE a response is there, which is none either. -/
structure Unrefused (s : State) : Prop where
  deferred : DefersNoRefusal s
  answered : s.phase = .IDLE → ∃ r, s.rsp = some r ∧ r.NotRefusal

theorem Quiet.defersNoRefusal {s : State} (q : Quiet s) : DefersNoRefusal s := by
  simp [DefersNoRefusal, q.deferred]

/-- At a step of a command nothing has been answered yet. -/
theorem Unrefused.of_running {s : State} (h : DefersNoRefusal s) (running : s.phase ≠ .IDLE := by nofun) :
    Unrefused s :=
  ⟨h, fun idle => absurd idle running⟩

theorem unrefused_respond {s : State} {r : Response} (h : DefersNoRefusal s) (hr : r.NotRefusal) :
    Unrefused (respond s r) :=
  ⟨h, fun _ => ⟨r, rfl, hr⟩⟩

theorem unrefused_finish (s : State) {r : Response} (hr : r.NotRefusal) : Unrefused (finish s r) :=
  ⟨nofun, fun _ => ⟨r, rfl, hr⟩⟩

/-- Raising ends the command with the error, or in CLOSE keeps the error for step X2. -/
theorem unrefused_raise {s : State} {e : Response} (he : e.NotRefusal) : Unrefused (raise s e) := by
  cases hinit : s.phase.inInit with
  | true => rw [raise_inInit s e hinit]; exact unrefused_finish _ he
  | false =>
    by_cases hX1 : s.phase = .X1
    · rw [raise_X1 s e hX1]
      refine .of_running ?_
      rintro r ⟨⟩
      exact he
    · rw [raise_other s e hinit hX1]; exact unrefused_finish _ he

/-! ### One sequencer step -/

/-- A continuation of a step after which the command is still not refused. -/
def StaysUnrefused (f : State → State) : Prop := ∀ s, DefersNoRefusal s → Unrefused (f s)

theorem staysUnrefused_goTo {p : Phase} (hp : p ≠ .IDLE := by nofun) : StaysUnrefused (goTo p) :=
  fun _ h => .of_running h hp

theorem staysUnrefused_finish_ok : StaysUnrefused (finish · .ok) := fun s _ => unrefused_finish s notRefusal_ok

theorem staysUnrefused_finishInit : StaysUnrefused finishInit := fun _ _ => unrefused_finish _ notRefusal_ok

theorem staysUnrefused_enterFreq (hz : Rat) : StaysUnrefused (enterFreq .I7 hz) := fun _ h => .of_running h

theorem staysUnrefused_enterI8 : StaysUnrefused enterI8 := fun _ h => .of_running h

section Steps
variable {s : State} {after done : State → State} (h : Unrefused s)
include h

theorem unrefused_openStep : Unrefused (openStep s) := by
  cases ha : s.answer.ok
  · rw [openStep_fail s ha]; exact unrefused_raise notRefusal_busOpenError
  · rw [openStep_ok s ha]; exact .of_running h.deferred

theorem unrefused_writeStep (a : RegAddr) (v : Byte) (hafter : StaysUnrefused after) :
    Unrefused (writeStep s a v after) := by
  cases ha : s.answer.ok
  · rw [writeStep_fail s a v after ha]; exact unrefused_raise (notRefusal_registerIOError _ _)
  · rw [writeStep_ok s a v after ha]; exact hafter _ h.deferred

theorem unrefused_readModeStep {next : Phase} (hnext : next ≠ .IDLE) : Unrefused (readModeStep s next) := by
  cases ha : s.answer.ok
  · rw [readModeStep_fail s next ha]; exact unrefused_raise (notRefusal_registerIOError _ _)
  · rw [readModeStep_ok s next ha]; exact staysUnrefused_goTo hnext _ h.deferred

theorem unrefused_delayStep (hafter : StaysUnrefused after) : Unrefused (delayStep s after) := by
  cases ht : s.settleTimer with
  | none => rw [delayStep_start s after ht]; exact ⟨h.deferred, h.answered⟩
  | some n => rw [delayStep_end s after n ht]; exact hafter _ h.deferred

theorem unrefused_dutyStep (hdone : StaysUnrefused done) : Unrefused (dutyStep done s) := by
  cases ha : s.answer.ok
  · rw [dutyStep_fail s done ha]; exact unrefused_raise (notRefusal_registerIOError _ _)
  · rw [dutyStep_ok s done ha]; exact hdone _ h.deferred

/-- SETFREQ's steps, nested or not: every position it goes to is one of a command. -/
theorem unrefused_freqStep {wrap : FreqStep → Phase} (hwrap : ∀ f, wrap f ≠ .IDLE) (hdone : StaysUnrefused done)
    (f : FreqStep) : Unrefused (freqStep wrap done f s) := by
  cases f with
  | F1 => exact unrefused_readModeStep h (hwrap _)
  | F2 => exact unrefused_writeStep h _ _ (staysUnrefused_goTo (hwrap _))
  | F3 => exact unrefused_writeStep h _ _ (staysUnrefused_goTo (hwrap _))
  | F4 => exact unrefused_writeStep h _ _ (staysUnrefused_goTo (hwrap _))
  | F5 => exact unrefused_delayStep h (staysUnrefused_goTo (hwrap _))
  | F6 => exact unrefused_writeStep h _ _ (staysUnrefused_goTo (hwrap _))
  | F7 => exact hdone _ h.deferred

/-- Step X2 answers OK or the error kept from X1 (45_shutdown.md R116). -/
theorem unrefused_closeStep : Unrefused (closeStep s) := by
  apply unrefused_finish
  cases hd : s.deferred with
  | none => exact notRefusal_ok
  | some r => exact h.deferred r hd

theorem unrefused_seqStep : Unrefused (seqStep s) := by
  cases hp : s.phase with
  | IDLE => rwa [seqStep_IDLE hp]
  | I1 => rw [seqStep_I1 hp]; exact unrefused_openStep h
  | I2 => rw [seqStep_I2 hp]; exact unrefused_writeStep h _ _ staysUnrefused_goTo
  | I3 => rw [seqStep_I3 hp]; exact unrefused_writeStep h _ _ staysUnrefused_goTo
  | I4 => rw [seqStep_I4 hp]; exact unrefused_delayStep h staysUnrefused_goTo
  | I5read => rw [seqStep_I5read hp]; exact unrefused_readModeStep h nofun
  | I5write => rw [seqStep_I5write hp]; exact unrefused_writeStep h _ _ fun _ h => .of_running h
  | I6 => rw [seqStep_I6 hp]; exact unrefused_delayStep h (staysUnrefused_enterFreq _)
  | I7 f => rw [seqStep_I7 f hp]; exact unrefused_freqStep h (fun _ => by nofun) staysUnrefused_enterI8 f
  | I8 => rw [seqStep_I8 hp]; exact unrefused_dutyStep h staysUnrefused_finishInit
  | F f => rw [seqStep_F f hp]; exact unrefused_freqStep h (fun _ => by nofun) staysUnrefused_finish_ok f
  | D1 => rw [seqStep_D1 hp]; exact unrefused_dutyStep h staysUnrefused_finish_ok
  | X1 => rw [seqStep_X1 hp]; exact unrefused_dutyStep h staysUnrefused_goTo
  | X2 => rw [seqStep_X2 hp]; exact unrefused_closeStep h

end Steps

/-! ### The whole command -/

theorem unrefused_seqSteps (n : Nat) {s : State} (h : Unrefused s) : Unrefused (seqSteps n s) := by
  induction n generalizing s with
  | zero => exact h
  | succ n ih => exact ih (unrefused_seqStep h)

/-- SETDUTY and SETPW behind the lifecycle check: a channel with no address is an error of its own (43_duty_cycle.md
R104), any other enters step D1. -/
theorem unrefused_beginSetduty {s : State} (h : DefersNoRefusal s) (hrun : lifecycle s.life .SETDUTY = none)
    (ch : Channel) (x : Rat) : Unrefused (beginSetduty ch x s) := by
  rw [beginSetduty, hrun]
  cases addrOf s.cfg ch with
  | none => exact unrefused_respond h notRefusal_invalidChannelError
  | some a => exact .of_running h

theorem unrefused_beginSetpw {s : State} (h : DefersNoRefusal s) (hrun : lifecycle s.life .SETPW = none)
    (ch : Channel) (w : Rat) : Unrefused (beginSetpw ch w s) := by
  rw [beginSetpw, hrun]
  cases addrOf s.cfg ch with
  | none => exact unrefused_respond h notRefusal_invalidChannelError
  | some a => exact .of_running h

theorem unrefused_beginSetfreq {s : State} (h : DefersNoRefusal s) (hrun : lifecycle s.life .SETFREQ = none)
    (hz : Rat) : Unrefused (beginSetfreq hz s) := by
  rw [beginSetfreq, hrun]
  by_cases hzero : hz = 0
  · rw [if_pos hzero]; exact unrefused_respond h notRefusal_invalidOperandError
  · rw [if_neg hzero]; exact .of_running h

/-- Where the lifecycle check lets a command run, its entry refuses nothing. -/
theorem unrefused_beginCommand {i : Instr} {s : State} (h : DefersNoRefusal s)
    (hrun : lifecycle s.life i.cmd = none) : Unrefused (beginCommand i s) := by
  cases i <;> rw [Instr.cmd] at hrun
  case init =>
    rw [beginCommand, beginInit, hrun]
    exact .of_running h
  case setfreq hz => exact unrefused_beginSetfreq h hrun hz
  case getfreq =>
    rw [beginCommand, beginGetfreq, hrun]
    exact unrefused_respond h (notRefusal_okValue _)
  case setduty ch x => exact unrefused_beginSetduty h hrun ch x
  case setpw ch w => exact unrefused_beginSetpw h hrun ch w
  case close =>
    rw [beginCommand, beginClose, hrun]
    exact .of_running h

/-- A command that the lifecycle check lets run ends with a response, and it is no refusal. -/
theorem exec_answers_notRefusal {i : Instr} {s : State} (q : Quiet s) (hrun : lifecycle s.life i.cmd = none) :
    ∃ t r, exec i s = .next t ∧ t.rsp = some r ∧ r.NotRefusal := by
  have unrefused := unrefused_seqSteps maxSeqSteps (unrefused_beginCommand q.defersNoRefusal hrun)
  obtain ⟨r, hrsp, hr⟩ := unrefused.answered (seqSteps_max_IDLE _)
  exact ⟨_, r, by rw [exec_eq_runCommand, runCommand_accepts _ q.accepts], hrsp, hr⟩

/-- Settles O33: the rows of `lifecycle` where it answers, and the sequencer's invariant `Unrefused` where it says `run`. -/
theorem lifecycleTable : Obligations.LifecycleTable := by
  refine fun s i q => ⟨fun hlife hcmd => ?unopened, fun hlife hcmd => ?ready, fun hlife hcmd => ?closed,
    fun hlife hcmd => ?closedAgain, fun hlife => ?failed, fun hruns => ?runs⟩
  case unopened => exact exec_of_lifecycle q (by rw [hlife, lifecycle_UNOPENED hcmd])
  case ready => exact exec_of_lifecycle q (by rw [hlife, hcmd, lifecycle])
  case closed => exact exec_of_lifecycle q (by rw [hlife, lifecycle_CLOSED hcmd])
  case closedAgain => exact exec_of_lifecycle q (by rw [hlife, hcmd, lifecycle])
  case failed => exact exec_of_lifecycle q (by rw [hlife, lifecycle_FAILED])
  case runs =>
    apply exec_answers_notRefusal q
    obtain ⟨hlife, hcmd⟩ | ⟨hlife, hcmd⟩ := hruns
    · rw [hlife, hcmd, lifecycle]
    · rw [hlife, lifecycle_READY hcmd]

end Sys2Proof.Machine
end

section
/-! SUPPORT. The operand fields of a command word (30_encoding.md R57, R58): the two codings, of numbers and of channels, are
each other's inverse between what is representable and the field's bit patterns. -/

namespace Sys2Proof

/-! ### Numbers (R57) -/

/-- A representable number is a 32-bit integer over 4096. -/
theorem fixedRepresentable_iff {x : Rat} :
    fixedRepresentable x = true ↔ ∃ n : Int, -2147483648 ≤ n ∧ n ≤ 2147483647 ∧ x * 4096 = n := by
  simp only [fixedRepresentable, Bool.and_eq_true, decide_eq_true_eq]
  constructor
  · rintro ⟨⟨hden, hlow⟩, hhigh⟩
    exact ⟨(x * 4096).num, hlow, hhigh, ((Rat.den_eq_one_iff _).mp hden).symm⟩
  · rintro ⟨n, hlow, hhigh, hn⟩
    rw [hn]
    exact ⟨⟨Rat.den_intCast n, hlow⟩, hhigh⟩

theorem decodeFixed_mul (opd : OpdWord) : decodeFixed opd * 4096 = (opd.toInt : Rat) :=
  div_mul_cancel₀ _ (by norm_num)

theorem encodeFixed_of_mul_eq {x : Rat} {n : Int} (h : x * 4096 = n) : encodeFixed x = BitVec.ofInt 32 n := by
  rw [encodeFixed, h, Rat.floor_intCast]

theorem encodeFixed_decodeFixed (opd : OpdWord) : encodeFixed (decodeFixed opd) = opd := by
  rw [encodeFixed_of_mul_eq (decodeFixed_mul opd), BitVec.ofInt_toInt]

theorem fixedRepresentable_decodeFixed (opd : OpdWord) : fixedRepresentable (decodeFixed opd) = true :=
  fixedRepresentable_iff.mpr ⟨opd.toInt, BitVec.le_toInt opd, Int.le_of_lt_add_one (BitVec.toInt_lt (x := opd)),
    decodeFixed_mul opd⟩

theorem toInt_ofInt_of_fits {w : Nat} {n : Int} (hlow : -2 ^ w ≤ n) (hhigh : n < 2 ^ w) :
    (BitVec.ofInt (w + 1) n).toInt = n :=
  BitVec.toInt_ofInt_eq_self (by omega) hlow hhigh

theorem decodeFixed_encodeFixed {x : Rat} (h : fixedRepresentable x = true) : decodeFixed (encodeFixed x) = x := by
  obtain ⟨n, hlow, hhigh, hn⟩ := fixedRepresentable_iff.mp h
  rw [encodeFixed_of_mul_eq hn, decodeFixed, toInt_ofInt_of_fits (w := 31) (by omega) (by omega), ← hn]
  exact mul_div_cancel_right₀ _ (by norm_num)

/-! ### Channels (R58) -/

theorem toInt_ofNat_channel (c : Fin 16) : (BitVec.ofNat 8 c.val).toInt = (c.val : Int) := by
  have hc : c.val < 16 := c.isLt
  rw [BitVec.toInt_eq_toNat_of_lt] <;> simp <;> omega

theorem decodeChannel_encodeChannel {ch : Channel} (hlegal : ch.legal = true) (hrep : ch.representable = true) :
    decodeChannel (encodeChannel ch) = ch := by
  cases ch with
  | single c => exact decodeChannel_of_toInt_eq_val (toInt_ofNat_channel c)
  | all => exact decodeChannel_of_toInt_eq_neg_one (by decide)
  | outOfRange n =>
    simp only [Channel.legal, Channel.representable, decide_eq_true_eq] at hlegal hrep
    have hn : (BitVec.ofInt 8 n).toInt = n := toInt_ofInt_of_fits (w := 7) (by omega) (by omega)
    rw [encodeChannel, decodeChannel_of_outOfRange (by rwa [hn]), hn]

/-- Every channel code decodes to a channel that has this code and no other. -/
theorem decodeChannel_spec (aux : BitVec 8) :
    (decodeChannel aux).legal = true ∧ (decodeChannel aux).representable = true ∧ encodeChannel (decodeChannel aux) = aux := by
  have hlow := BitVec.le_toInt aux
  have hhigh := BitVec.toInt_lt (x := aux)
  by_cases hsingle : 0 ≤ aux.toInt ∧ aux.toInt ≤ 15
  · obtain ⟨c, hc⟩ : ∃ c : Fin 16, aux.toInt = (c.val : Int) := ⟨⟨aux.toInt.toNat, by omega⟩, by simp; omega⟩
    rw [decodeChannel_of_toInt_eq_val hc]
    exact ⟨rfl, rfl, BitVec.eq_of_toInt_eq ((toInt_ofNat_channel c).trans hc.symm)⟩
  · by_cases hall : aux.toInt = -1
    · rw [decodeChannel_of_toInt_eq_neg_one hall]
      exact ⟨rfl, rfl, BitVec.eq_of_toInt_eq (hall ▸ by decide)⟩
    · have hout : aux.toInt < -1 ∨ 15 < aux.toInt := by omega
      rw [decodeChannel_of_outOfRange hout]
      exact ⟨decide_eq_true hout, decide_eq_true (by omega), BitVec.ofInt_toInt⟩

end Sys2Proof
end

section
/-! SUPPORT. Which words are legal (30_encoding.md R60, R71), said once: the decoder answers a command exactly when the
word's fields meet the row of that command, and then the command is read off the fields. -/

namespace Sys2Proof

/-- The fields of the word meet the row of the command (30_encoding.md R71). -/
def LegalFor (w : CmdWord) : Cmd → Prop
  | .INIT => opField w = 0x01 ∧ (opdField w).extractLsb' 16 16 = 0
  | .SETFREQ => opField w = 0x02 ∧ auxField w = 0
  | .GETFREQ => opField w = 0x03 ∧ auxField w = 0 ∧ opdField w = 0
  | .SETDUTY => opField w = 0x04
  | .SETPW => opField w = 0x05
  | .CLOSE => opField w = 0x06 ∧ auxField w = 0 ∧ opdField w = 0

/-- The command that the fields of a word spell, read as a word of the given row. -/
def instrOfFields (w : CmdWord) : Cmd → Instr
  | .INIT => .init (auxField w) ((opdField w).extractLsb' 0 16)
  | .SETFREQ => .setfreq (decodeFixed (opdField w))
  | .GETFREQ => .getfreq
  | .SETDUTY => .setduty (decodeChannel (auxField w)) (decodeFixed (opdField w))
  | .SETPW => .setpw (decodeChannel (auxField w)) (decodeFixed (opdField w))
  | .CLOSE => .close

theorem instrOfFields_cmd (w : CmdWord) (c : Cmd) : (instrOfFields w c).cmd = c := by
  cases c <;> rfl

theorem decode_of_legalFor {w : CmdWord} {c : Cmd} (h : LegalFor w c) : decode w = .ok (instrOfFields w c) := by
  cases c <;> simp only [LegalFor] at h <;> simp [decode, h, instrOfFields]

/-- The decoder's branches, read from the answer: an `ok` comes from one of the six rows. -/
theorem legalFor_of_decode {w : CmdWord} {i : Instr} (h : decode w = .ok i) : ∃ c, LegalFor w c ∧ i = instrOfFields w c := by
  rw [decode] at h
  split at h
  next hop =>
    split at h
    next hupper => exact ⟨.INIT, ⟨hop, hupper⟩, (Except.ok.inj h).symm⟩
    next => cases h
  next =>
  split at h
  next hop =>
    split at h
    next haux => exact ⟨.SETFREQ, ⟨hop, haux⟩, (Except.ok.inj h).symm⟩
    next => cases h
  next =>
  split at h
  next hop =>
    split at h
    next => cases h
    next haux =>
    split at h
    next => cases h
    next hopd => exact ⟨.GETFREQ, ⟨hop, not_not.mp haux, not_not.mp hopd⟩, (Except.ok.inj h).symm⟩
  next =>
  split at h
  next hop => exact ⟨.SETDUTY, hop, (Except.ok.inj h).symm⟩
  next =>
  split at h
  next hop => exact ⟨.SETPW, hop, (Except.ok.inj h).symm⟩
  next =>
  split at h
  next hop =>
    split at h
    next => cases h
    next haux =>
    split at h
    next => cases h
    next hopd => exact ⟨.CLOSE, ⟨hop, not_not.mp haux, not_not.mp hopd⟩, (Except.ok.inj h).symm⟩
  next => cases h

theorem decode_eq_ok_iff {w : CmdWord} {i : Instr} :
    decode w = .ok i ↔ LegalFor w i.cmd ∧ i = instrOfFields w i.cmd := by
  constructor
  · intro h
    obtain ⟨c, hlegal, rfl⟩ := legalFor_of_decode h
    rw [instrOfFields_cmd]
    exact ⟨hlegal, rfl⟩
  · rintro ⟨hlegal, hi⟩
    rw [decode_of_legalFor hlegal, ← hi]

theorem exists_decode_ok_iff {w : CmdWord} {c : Cmd} : (∃ i, decode w = .ok i ∧ i.cmd = c) ↔ LegalFor w c := by
  constructor
  · rintro ⟨i, h, rfl⟩
    exact (decode_eq_ok_iff.mp h).1
  · intro h
    exact ⟨instrOfFields w c, decode_of_legalFor h, instrOfFields_cmd w c⟩

theorem exists_decode_error_iff {w : CmdWord} : (∃ e, decode w = .error e) ↔ ∀ c, ¬ LegalFor w c := by
  constructor
  · rintro ⟨e, he⟩ c hlegal
    rw [decode_of_legalFor hlegal] at he
    cases he
  · intro h
    cases hd : decode w with
    | error e => exact ⟨e, rfl⟩
    | ok i => exact absurd (decode_eq_ok_iff.mp hd).1 (h _)

/-! ### The two round trips -/

/-- INIT's operand field is the address below a half of zeros (30_encoding.md R59). -/
theorem setWidth_address (address : DevAddress) : address.setWidth 32 = (0 : BitVec 16) ++ address := by
  rw [BitVec.setWidth_eq_append (by decide)]
  rfl

theorem upper_append_lower (opd : OpdWord) : opd.extractLsb' 16 16 ++ opd.extractLsb' 0 16 = opd :=
  BitVec.extractLsb'_append_extractLsb'

theorem legalFor_encode (i : Instr) : LegalFor (encode i) i.cmd := by
  cases i with
  | init bus address =>
    refine ⟨opField_formatC _ _ _, ?_⟩
    rw [encode, opdField_formatC, setWidth_address]
    exact BitVec.extractLsb'_append_eq_left
  | setfreq hz => exact ⟨opField_formatC _ _ _, auxField_formatC _ _ _⟩
  | getfreq => exact ⟨opField_formatC _ _ _, auxField_formatC _ _ _, opdField_formatC _ _ _⟩
  | setduty ch x => exact opField_formatC _ _ _
  | setpw ch x => exact opField_formatC _ _ _
  | close => exact ⟨opField_formatC _ _ _, auxField_formatC _ _ _, opdField_formatC _ _ _⟩

theorem instrOfFields_encode {i : Instr} (h : i.wellFormed = true) : instrOfFields (encode i) i.cmd = i := by
  cases i with
  | init bus address =>
    rw [Instr.cmd, instrOfFields, encode, auxField_formatC, opdField_formatC, setWidth_address]
    exact congrArg _ BitVec.extractLsb'_append_eq_right
  | setfreq hz => rw [Instr.cmd, instrOfFields, encode, opdField_formatC, decodeFixed_encodeFixed h]
  | getfreq => rfl
  | setduty ch x =>
    simp only [Instr.wellFormed, Bool.and_eq_true] at h
    obtain ⟨⟨hlegal, hrep⟩, hx⟩ := h
    rw [Instr.cmd, instrOfFields, encode, auxField_formatC, opdField_formatC, decodeChannel_encodeChannel hlegal hrep,
      decodeFixed_encodeFixed hx]
  | setpw ch x =>
    simp only [Instr.wellFormed, Bool.and_eq_true] at h
    obtain ⟨⟨hlegal, hrep⟩, hx⟩ := h
    rw [Instr.cmd, instrOfFields, encode, auxField_formatC, opdField_formatC, decodeChannel_encodeChannel hlegal hrep,
      decodeFixed_encodeFixed hx]
  | close => rfl

/-- Settles O2: the encoding of a command meets the command's row, and its fields spell the command. -/
theorem decodeOfEncode : Obligations.DecodeOfEncode := fun i h =>
  decode_eq_ok_iff.mpr ⟨legalFor_encode i, (instrOfFields_encode h).symm⟩

/-- A word is the format of its fields, so of three fields that are its own. -/
theorem formatC_eq_of_fields {w : CmdWord} {op aux : BitVec 8} {opd : OpdWord} (hop : opField w = op)
    (haux : auxField w = aux) (hopd : opdField w = opd) : formatC op aux opd = w := by
  rw [← hop, ← haux, ← hopd, formatC_fields]

theorem encode_instrOfFields {w : CmdWord} {c : Cmd} (h : LegalFor w c) : encode (instrOfFields w c) = w := by
  cases c with
  | INIT =>
    obtain ⟨hop, hupper⟩ := h
    refine formatC_eq_of_fields hop rfl ?_
    rw [setWidth_address, ← hupper, upper_append_lower]
  | SETFREQ => exact formatC_eq_of_fields h.1 h.2 (encodeFixed_decodeFixed _).symm
  | GETFREQ => exact formatC_eq_of_fields h.1 h.2.1 h.2.2
  | SETDUTY => exact formatC_eq_of_fields h (decodeChannel_spec _).2.2.symm (encodeFixed_decodeFixed _).symm
  | SETPW => exact formatC_eq_of_fields h (decodeChannel_spec _).2.2.symm (encodeFixed_decodeFixed _).symm
  | CLOSE => exact formatC_eq_of_fields h.1 h.2.1 h.2.2

theorem wellFormed_instrOfFields (w : CmdWord) (c : Cmd) : (instrOfFields w c).wellFormed = true := by
  obtain ⟨hlegal, hrep, -⟩ := decodeChannel_spec (auxField w)
  cases c <;> simp [instrOfFields, Instr.wellFormed, hlegal, hrep, fixedRepresentable_decodeFixed]

/-- Settles O3: what decodes is spelled by the word's fields, and the format of these fields is the word. -/
theorem encodeOfDecode : Obligations.EncodeOfDecode := by
  intro w i h
  obtain ⟨hlegal, hi⟩ := decode_eq_ok_iff.mp h
  rw [hi]
  exact ⟨wellFormed_instrOfFields w _, encode_instrOfFields hlegal⟩

end Sys2Proof
end

section
/-! SUPPORT. The rows of the opcode table (30_encoding.md R71) field by field, and the illegal words of R60. -/

namespace Sys2Proof

theorem formatC_and (op aux op' aux' : BitVec 8) (opd opd' : OpdWord) :
    formatC op aux opd &&& formatC op' aux' opd' = formatC (op &&& op') (aux &&& aux') (opd &&& opd') :=
  BitVec.and_append.trans (congrArg (· ++ (opd &&& opd')) BitVec.and_append)

theorem formatC_inj {op aux op' aux' : BitVec 8} {opd opd' : OpdWord} :
    formatC op aux opd = formatC op' aux' opd' ↔ op = op' ∧ aux = aux' ∧ opd = opd' := by
  constructor
  · intro h
    have hop := congrArg opField h
    have haux := congrArg auxField h
    have hopd := congrArg opdField h
    rw [opField_formatC, opField_formatC] at hop
    rw [auxField_formatC, auxField_formatC] at haux
    rw [opdField_formatC, opdField_formatC] at hopd
    exact ⟨hop, haux, hopd⟩
  · rintro ⟨rfl, rfl, rfl⟩
    rfl

/-- A word under a mask, field by field. -/
theorem and_formatC_eq_iff {w : CmdWord} {op aux op' aux' : BitVec 8} {opd opd' : OpdWord} :
    w &&& formatC op aux opd = formatC op' aux' opd' ↔
      opField w &&& op = op' ∧ auxField w &&& aux = aux' ∧ opdField w &&& opd = opd' := by
  rw [← formatC_inj, ← formatC_and, formatC_fields]

/-- A row of the opcode table: the opcode, and the reserved bits of the other two fields all 0. -/
theorem and_rowMask_iff (w : CmdWord) (op aux : BitVec 8) (opd : OpdWord) :
    w &&& formatC 0xFF aux opd = formatC op 0 0 ↔
      opField w = op ∧ auxField w &&& aux = 0 ∧ opdField w &&& opd = 0 := by
  have wholeOp : opField w &&& 0xFF = opField w := BitVec.and_allOnes
  rw [and_formatC_eq_iff, wholeOp]

theorem and_wholeAux (aux : BitVec 8) : aux &&& 0xFF#8 = aux := BitVec.and_allOnes

theorem and_wholeOpd (opd : OpdWord) : opd &&& 0xFFFFFFFF#32 = opd := BitVec.and_allOnes

theorem and_upperHalf (opd : OpdWord) : opd &&& 0xFFFF0000#32 = opd.extractLsb' 16 16 ++ 0#16 := by
  have masked := BitVec.and_append (x₁ := opd.extractLsb' 16 16) (x₂ := BitVec.allOnes 16)
    (y₁ := opd.extractLsb' 0 16) (y₂ := 0#16)
  rw [BitVec.and_allOnes, BitVec.and_zero, upper_append_lower] at masked
  exact masked

theorem and_upperHalf_eq_zero_iff (opd : OpdWord) : opd &&& 0xFFFF0000#32 = 0#32 ↔ opd.extractLsb' 16 16 = 0#16 := by
  rw [and_upperHalf]
  constructor
  · intro h
    have upper := congrArg (BitVec.extractLsb' 16 16) h
    rwa [BitVec.extractLsb'_append_eq_left] at upper
  · intro h
    rw [h]
    rfl

theorem and_mask_eq_matchBits_iff (w : CmdWord) (c : Cmd) : w &&& c.mask = c.matchBits ↔ LegalFor w c := by
  cases c with
  | INIT => exact (and_rowMask_iff w 0x01 0 0xFFFF0000).trans (by simp [LegalFor, and_upperHalf_eq_zero_iff])
  | SETFREQ => exact (and_rowMask_iff w 0x02 0xFF 0).trans (by simp [LegalFor, and_wholeAux])
  | GETFREQ => exact (and_rowMask_iff w 0x03 0xFF 0xFFFFFFFF).trans (by simp [LegalFor, and_wholeAux, and_wholeOpd])
  | SETDUTY => exact (and_rowMask_iff w 0x04 0 0).trans (by simp [LegalFor])
  | SETPW => exact (and_rowMask_iff w 0x05 0 0).trans (by simp [LegalFor])
  | CLOSE => exact (and_rowMask_iff w 0x06 0xFF 0xFFFFFFFF).trans (by simp [LegalFor, and_wholeAux, and_wholeOpd])

/-- A word meets one row at most: the decoder answers one command. -/
theorem legalFor_unique {w : CmdWord} {c d : Cmd} (hc : LegalFor w c) (hd : LegalFor w d) : c = d := by
  have sameAnswer := (decode_of_legalFor hc).symm.trans (decode_of_legalFor hd)
  have sameCmd := congrArg Instr.cmd (Except.ok.inj sameAnswer)
  rwa [instrOfFields_cmd, instrOfFields_cmd] at sameCmd

/-- Settles O4: mask and match of a row say of a word what `LegalFor` says of its fields. -/
theorem legalExactlyByOpcodeRow : Obligations.LegalExactlyByOpcodeRow :=
  ⟨fun w c => exists_decode_ok_iff.trans (and_mask_eq_matchBits_iff w c).symm, fun w c d hc hd =>
    legalFor_unique ((and_mask_eq_matchBits_iff w c).mp hc) ((and_mask_eq_matchBits_iff w d).mp hd)⟩

theorem upperHalf_eq_zero_iff (opd : OpdWord) : opd.extractLsb' 16 16 = 0 ↔ opd.toNat / 65536 = 0 := by
  have hlt : opd.toNat < 4294967296 := opd.isLt
  rw [← BitVec.toNat_inj, BitVec.extractLsb'_toNat, Nat.shiftRight_eq_div_pow]
  simp only [BitVec.ofNat_eq_ofNat, BitVec.toNat_ofNat, Nat.zero_mod]
  omega

theorem forall_cmd_iff {P : Cmd → Prop} :
    (∀ c, P c) ↔ P .INIT ∧ P .SETFREQ ∧ P .GETFREQ ∧ P .SETDUTY ∧ P .SETPW ∧ P .CLOSE :=
  ⟨fun h => ⟨h _, h _, h _, h _, h _, h _⟩, fun ⟨h1, h2, h3, h4, h5, h6⟩ c => by cases c <;> assumption⟩

/-- Settles O5: a word is illegal where it meets none of the six rows, field by field a statement about numbers. -/
theorem illegalExactlyByReservedFields : Obligations.IllegalExactlyByReservedFields := by
  intro w
  rw [exists_decode_error_iff, forall_cmd_iff]
  simp only [LegalFor, upperHalf_eq_zero_iff, ne_eq]
  simp only [← BitVec.toNat_inj, BitVec.ofNat_eq_ofNat, BitVec.toNat_ofNat]
  omega

/-- Settles O1: the decoder run on the nine words. -/
theorem listedWordsDecode : Obligations.ListedWordsDecode := by
  refine ⟨?_, ?_, ?_, ?_, ?_, ?_, ?_, ?_, ?_⟩ <;> decide +kernel

end Sys2Proof
end

section
/-! SUPPORT. The prescaler's table and laws (42_frequency.md R84, R91): the raw prescale compared with a number says where
the request lies against `K` over that number and a half, whatever the request's sign. -/

namespace Sys2Proof.Machine

theorem prescaleRaw_lt_iff_of_ne_zero {hz : Rat} {n : Int} (hne : hz ≠ 0) (hn : 0 ≤ n) :
    prescaleRaw hz < n ↔ (390625 / 64) / ((n : Rat) + 1 / 2) < hz ∨ hz < 0 := by
  have bound : (0 : Rat) < n + 1 / 2 := by positivity
  rw [prescaleRaw_lt_iff, div_lt_iff_lt_or_neg (by norm_num) hne bound]

theorem le_prescaleRaw_iff_of_ne_zero {hz : Rat} {n : Int} (hne : hz ≠ 0) (hn : 0 ≤ n) :
    n ≤ prescaleRaw hz ↔ hz ≤ (390625 / 64) / ((n : Rat) + 1 / 2) ∧ 0 < hz := by
  rw [← not_lt, prescaleRaw_lt_iff_of_ne_zero hne hn, not_or, not_lt, not_lt, hne.symm.le_iff_lt]

/-- R84's interval of requests for one raw prescale. -/
theorem prescaleRaw_eq_iff {hz : Rat} {p : Int} (hne : hz ≠ 0) (hp : 0 ≤ p) :
    prescaleRaw hz = p ↔
      (390625 / 64) / ((p : Rat) + 3 / 2) < hz ∧ hz ≤ (390625 / 64) / ((p : Rat) + 1 / 2) := by
  have next : ((p + 1 : Int) : Rat) + 1 / 2 = p + 3 / 2 := by push_cast; ring
  have lower : (0 : Rat) < (390625 / 64) / ((p : Rat) + 3 / 2) := by positivity
  have between : prescaleRaw hz = p ↔ p ≤ prescaleRaw hz ∧ prescaleRaw hz < p + 1 := by omega
  rw [between, le_prescaleRaw_iff_of_ne_zero hne hp, prescaleRaw_lt_iff_of_ne_zero hne (by omega), next]
  constructor
  · rintro ⟨⟨hle, hpos⟩, hlt | hneg⟩
    · exact ⟨hlt, hle⟩
    · exact absurd hneg hpos.not_gt
  · rintro ⟨hlt, hle⟩
    exact ⟨⟨hle, lower.trans hlt⟩, .inl hlt⟩

/-! ### The clamp (R83) -/

theorem prescaleOf_of_le {hz : Rat} (h : prescaleRaw hz ≤ 3) : prescaleOf hz = 3 := by
  rw [prescaleOf_eq_ite]
  split_ifs <;> omega

theorem prescaleOf_of_ge {hz : Rat} (h : 255 ≤ prescaleRaw hz) : prescaleOf hz = 255 := by
  rw [prescaleOf_eq_ite]
  split_ifs <;> omega

theorem prescaleOf_of_mem_range {hz : Rat} (hlow : 3 ≤ prescaleRaw hz) (hhigh : prescaleRaw hz ≤ 255) :
    prescaleOf hz = prescaleRaw hz := by
  rw [prescaleOf_eq_ite, if_neg (by omega), if_neg (by omega)]

theorem prescaleOf_mem_range (hz : Rat) : 3 ≤ prescaleOf hz ∧ prescaleOf hz ≤ 255 := by
  rw [prescaleOf_eq_ite]
  split_ifs <;> omega

theorem prescaleOf_mono {a b : Rat} (h : prescaleRaw a ≤ prescaleRaw b) : prescaleOf a ≤ prescaleOf b := by
  rw [prescaleOf_eq_ite, prescaleOf_eq_ite]
  split_ifs <;> omega

/-- An unclamped prescale with its raw value. -/
theorem prescaleOf_of_raw_eq {hz : Rat} {p : Int} (hraw : prescaleRaw hz = p) (hlow : 3 ≤ p) (hhigh : p ≤ 255) :
    prescaleOf hz = p ∧ prescaleRaw hz = p :=
  ⟨(prescaleOf_of_mem_range (by omega) (by omega)).trans hraw, hraw⟩

/-- Settles O8: each row of R84 is `prescaleRaw_eq_iff` or one of its two halves, and the clamp where the row names it. -/
theorem prescaleIntervals : Obligations.PrescaleIntervals := by
  refine ⟨fun hz p hne hp _ => prescaleRaw_eq_iff hne (by omega), fun hz hneg => ?negative, fun hz hpos hle => ?tooSlow,
    fun hz hlt hle => ?at255, fun hz p hp hp' hlt hle => ?inside, fun hz hlt hle => ?at3, fun hz hlt => ?tooFast, ?tie⟩
  case negative =>
    have raw := prescaleRaw_le_neg_one hneg
    exact ⟨prescaleOf_of_le (by omega), raw⟩
  case tooSlow =>
    have raw : 256 ≤ prescaleRaw hz :=
      (le_prescaleRaw_iff_of_ne_zero hpos.ne' (by decide)).mpr ⟨hle.trans_eq (by norm_num), hpos⟩
    exact ⟨prescaleOf_of_ge (by omega), raw⟩
  case at255 =>
    have hpos : 0 < hz := lt_trans (by norm_num) hlt
    refine prescaleOf_of_raw_eq ((prescaleRaw_eq_iff hpos.ne' (by decide)).mpr ⟨?_, ?_⟩) (by decide) (by decide)
    · exact lt_of_eq_of_lt (by norm_num) hlt
    · exact hle.trans_eq (by norm_num)
  case inside =>
    have lower : (0 : Rat) < (390625 / 64) / ((p : Rat) + 3 / 2) := by positivity
    have hne : hz ≠ 0 := (lower.trans hlt).ne'
    exact prescaleOf_of_raw_eq ((prescaleRaw_eq_iff hne (by omega)).mpr ⟨hlt, hle⟩) (by omega) (by omega)
  case at3 =>
    have hpos : 0 < hz := lt_trans (by norm_num) hlt
    refine prescaleOf_of_raw_eq ((prescaleRaw_eq_iff hpos.ne' (by decide)).mpr ⟨?_, ?_⟩) (by decide) (by decide)
    · exact lt_of_eq_of_lt (by norm_num) hlt
    · exact hle.trans_eq (by norm_num)
  case tooFast =>
    have hpos : 0 < hz := lt_trans (by norm_num) hlt
    have raw : prescaleRaw hz < 3 :=
      (prescaleRaw_lt_iff_of_ne_zero hpos.ne' (by decide)).mpr (.inl (lt_of_eq_of_lt (by norm_num) hlt))
    exact ⟨prescaleOf_of_le (by omega), by omega⟩
  case tie => exact (prescaleRaw_eq_iff (by norm_num) (by decide)).mpr (by norm_num)

/-! ### The laws (R91) -/

theorem prescaleRaw_antitone {a b : Rat} (ha : 0 < a) (hab : a ≤ b) : prescaleRaw b ≤ prescaleRaw a := by
  have quotients : (390625 / 64 : Rat) / b ≤ 390625 / 64 / a := div_le_div_of_nonneg_left (by norm_num) ha hab
  exact le_prescaleRaw_iff.mpr ((le_prescaleRaw_iff.mp le_rfl).trans quotients)

/-- Nearness in periods: `K / hz` is within half a unit of `p + 1`. -/
theorem quotient_near_of_prescaleRaw_eq {hz : Rat} {p : Int} (h : prescaleRaw hz = p) :
    (p : Rat) + 1 / 2 ≤ (390625 / 64) / hz ∧ (390625 / 64) / hz < (p : Rat) + 3 / 2 ∧
      |(390625 / 64) / hz - ((p : Rat) + 1)| ≤ 1 / 2 := by
  have lower : (p : Rat) + 1 / 2 ≤ 390625 / 64 / hz := le_prescaleRaw_iff.mp h.ge
  have upper : (390625 / 64 : Rat) / hz < ((p + 1 : Int) : Rat) + 1 / 2 := prescaleRaw_lt_iff.mp (by omega)
  push_cast at upper
  exact ⟨lower, by linarith, abs_le.mpr ⟨by linarith, by linarith⟩⟩

/-- A realisable frequency compared with `K` over another positive divisor. -/
theorem freqOf_lt_div {p : Int} {d : Rat} (hd : 0 < d) (h : d < (p : Rat) + 1) : freqOf p < (390625 / 64) / d := by
  rw [freqOf, baseHz_eq]
  exact div_lt_div_of_pos_left (by norm_num) hd h

theorem div_lt_freqOf {p : Int} {d : Rat} (hp : 0 < (p : Rat) + 1) (h : (p : Rat) + 1 < d) :
    (390625 / 64) / d < freqOf p := by
  rw [freqOf, baseHz_eq]
  exact div_lt_div_of_pos_left (by norm_num) hp h

/-- Nearness in frequencies: the ends of the request's interval lie between the neighbouring realisable frequencies. -/
theorem interval_between_neighbours {p : Int} (hp : 3 ≤ p) :
    freqOf (p + 1) < (390625 / 64) / ((p : Rat) + 3 / 2) ∧ (390625 / 64) / ((p : Rat) + 1 / 2) < freqOf (p - 1) ∧
      freqOf (p + 1) < freqOf p ∧ freqOf p < freqOf (p - 1) := by
  have hp' : (3 : Rat) ≤ p := by exact_mod_cast hp
  refine ⟨freqOf_lt_div (by positivity) ?_, div_lt_freqOf ?_ ?_, freqOf_lt_freqOf (by omega) (by omega),
    freqOf_lt_freqOf (by omega) (by omega)⟩ <;> push_cast <;> linarith

theorem prescaleRaw_freqOf {p : Int} (hp : 0 ≤ p) : prescaleRaw (freqOf p) = p := by
  have hpos : (0 : Rat) < (p : Rat) + 1 := by positivity
  have hne : freqOf p ≠ 0 := by rw [freqOf, baseHz_eq]; positivity
  refine (prescaleRaw_eq_iff hne hp).mpr ⟨div_lt_freqOf hpos (by linarith), (freqOf_lt_div ?_ ?_).le⟩
  · positivity
  · linarith

/-- The requests of R91 (d) are not clamped. -/
theorem prescaleRaw_mem_range_of_usual {hz : Rat} (hlow : 24 ≤ hz) (hhigh : hz ≤ 1526) :
    3 ≤ prescaleRaw hz ∧ prescaleRaw hz ≤ 253 := by
  have hpos : 0 < hz := lt_of_lt_of_le (by norm_num) hlow
  have upper : prescaleRaw hz < 254 := (prescaleRaw_lt_iff_of_ne_zero hpos.ne' (by decide)).mpr
    (.inl (lt_of_lt_of_le (by norm_num) hlow))
  exact ⟨(le_prescaleRaw_iff_of_ne_zero hpos.ne' (by decide)).mpr ⟨hhigh.trans (by norm_num), hpos⟩, by omega⟩

/-- Settles O10, one lemma for each law. -/
theorem prescaleLaws : Obligations.PrescaleLaws := by
  refine ⟨fun hz _ => prescaleOf_mem_range hz, fun a b ha hab => prescaleOf_mono (prescaleRaw_antitone ha hab),
    fun a b ha _ => ?signs, fun hz p hne hp _ hraw => ?near, fun hz hlow hhigh => ?unclamped, ⟨?low, ?high⟩,
    fun p hp hp' => ?idempotent⟩
  case signs =>
    have raw := prescaleRaw_le_neg_one ha
    exact ⟨prescaleOf_of_le (by omega), (prescaleOf_mem_range b).1⟩
  case near =>
    obtain ⟨lower, upper, near⟩ := quotient_near_of_prescaleRaw_eq hraw
    obtain ⟨below, above, stepDown, stepUp⟩ := interval_between_neighbours hp
    obtain ⟨hlt, hle⟩ := (prescaleRaw_eq_iff hne (by omega)).mp hraw
    exact ⟨lower, upper, near, below, hlt, hle, above, stepDown, stepUp⟩
  case unclamped =>
    obtain ⟨lower, upper⟩ := prescaleRaw_mem_range_of_usual hlow hhigh
    exact ⟨prescaleOf_of_mem_range lower (by omega), lower, upper⟩
  case low => exact (prescaleRaw_eq_iff (by norm_num) (by decide)).mpr (by norm_num)
  case high => exact (prescaleRaw_eq_iff (by norm_num) (by decide)).mpr (by norm_num)
  case idempotent => exact (prescaleOf_of_raw_eq (prescaleRaw_freqOf (by omega)) hp hp').1

end Sys2Proof.Machine
end

section
/-! SUPPORT. Rounding half up (00_scope.md R9) as comparisons, and with it the step counts of a percentage and of a pulse
width by ranges (43_duty_cycle.md R97, R99; 44_pulse_width.md R109, R111, R113). -/

namespace Sys2Proof.Machine

theorem le_rhu_iff {x : Rat} {n : Int} : n ≤ rhu x ↔ (n : Rat) - 1 / 2 ≤ x := by
  rw [rhu, Rat.le_floor_iff, sub_le_iff_le_add]

theorem rhu_lt_iff {x : Rat} {n : Int} : rhu x < n ↔ x < (n : Rat) - 1 / 2 := by
  rw [← not_le, le_rhu_iff, not_le]

theorem rhu_eq_iff {x : Rat} {n : Int} : rhu x = n ↔ (n : Rat) - 1 / 2 ≤ x ∧ x < (n : Rat) + 1 / 2 := by
  have between : rhu x = n ↔ n ≤ rhu x ∧ rhu x < n + 1 := by omega
  have half : ((n + 1 : Int) : Rat) - 1 / 2 = n + 1 / 2 := by push_cast; ring
  rw [between, le_rhu_iff, rhu_lt_iff, half]

/-! ### Percentages -/

theorem stepsOf_eq_rhu (x : Rat) : stepsOf x = rhu (x * 4096 / 100) := rfl

/-- A step count is reached half a step before it; one step is 25/1024 percent. -/
theorem le_stepsOf_iff {x : Rat} {n : Int} : n ≤ stepsOf x ↔ (2 * (n : Rat) - 1) * (25 / 2048) ≤ x := by
  rw [stepsOf_eq_rhu, le_rhu_iff]
  constructor <;> intro h <;> linarith

theorem stepsOf_lt_iff {x : Rat} {n : Int} : stepsOf x < n ↔ x < (2 * (n : Rat) - 1) * (25 / 2048) := by
  rw [← not_le, le_stepsOf_iff, not_le]

theorem stepsOf_neg_iff {x : Rat} : stepsOf x < 0 ↔ x < -25 / 2048 := by
  rw [stepsOf_lt_iff]
  norm_num

theorem stepsOf_full_iff {x : Rat} : 4095 < stepsOf x ↔ 204775 / 2048 ≤ x := by
  have full : 4095 < stepsOf x ↔ 4096 ≤ stepsOf x := by omega
  rw [full, le_stepsOf_iff]
  norm_num

theorem stepsOf_eq_of_range {x : Rat} {n : Int} (hlow : (2 * (n : Rat) - 1) * (25 / 2048) ≤ x)
    (hhigh : x < (2 * (n : Rat) + 1) * (25 / 2048)) : stepsOf x = n := by
  have lower : n ≤ stepsOf x := le_stepsOf_iff.mpr hlow
  have upper : stepsOf x < n + 1 := stepsOf_lt_iff.mpr (by push_cast; linarith)
  omega

/-- Settles O12: the two ends by the comparisons, each row by its range and R98. -/
theorem dutyByRangeOfPercent : Obligations.DutyByRangeOfPercent := by
  refine ⟨fun x => ⟨stepsOf_neg_iff, stepsOf_full_iff⟩, fun x hx => ?off, fun x hlow hhigh => ?zero,
    fun x n hn hn' hlow hhigh => ?ordinary, fun x hx => ?full⟩
  case off =>
    have neg := stepsOf_neg_iff.mpr hx
    exact ⟨by omega, onOffOf_of_neg neg⟩
  case zero =>
    have steps : stepsOf x = 0 := stepsOf_eq_of_range (by norm_num; linarith) (by norm_num; linarith)
    rw [steps]
    exact ⟨rfl, rfl⟩
  case ordinary =>
    have steps : stepsOf x = (n : Int) := stepsOf_eq_of_range (by exact_mod_cast hlow) (by exact_mod_cast hhigh)
    rw [steps, onOffOf_of_mem_range (by omega) (by omega), BitVec.ofInt_natCast]
    exact ⟨rfl, rfl⟩
  case full =>
    have full := stepsOf_full_iff.mpr hx
    exact ⟨by omega, onOffOf_of_gt full⟩

/-! ### Pulse widths -/

/-- R111's closed form holds of any period but 0. -/
theorem stepsOf_percentOfWidth (w u : Rat) : stepsOf (percentOfWidth w u) = rhu (w * 4096 / u) := by
  have scaled : w / u * 100 * 4096 / 100 = w * 4096 / u := by ring
  rw [stepsOf_eq_rhu, percentOfWidth, Config.pct, scaled]

theorem stepsOf_percentOfWidth_periodUsOf (w : Rat) {p : Int} (hp : 0 ≤ p) :
    stepsOf (percentOfWidth w (periodUsOf p)) = rhu (25 * w / ((p : Rat) + 1)) := by
  have hpos : (0 : Rat) < (p : Rat) + 1 := by positivity
  have scaled : w * 4096 / (4096 * ((p : Rat) + 1) / 25) = 25 * w / ((p : Rat) + 1) := by
    field_simp
  rw [stepsOf_percentOfWidth, periodUsOf_eq, scaled]

/-- Settles O15. -/
theorem pulseWidthClosedForm : Obligations.PulseWidthClosedForm := by
  have at121 (w : Rat) := stepsOf_percentOfWidth_periodUsOf w (p := 121) (by decide)
  refine ⟨fun w p hp _ => ⟨stepsOf_percentOfWidth w _, stepsOf_percentOfWidth_periodUsOf w (by omega)⟩, ?_, ?_, ?_⟩
  · exact (at121 1000).trans (rhu_eq_iff.mpr (by norm_num))
  · exact (at121 1500).trans (rhu_eq_iff.mpr (by norm_num))
  · exact (at121 2000).trans (rhu_eq_iff.mpr (by norm_num))

/-- The least pulse width that gives a step count. -/
theorem le_stepsOf_percentOfWidth_iff {w : Rat} {p n : Int} (hp : 0 ≤ p) :
    n ≤ stepsOf (percentOfWidth w (periodUsOf p)) ↔ (2 * (n : Rat) - 1) * ((p : Rat) + 1) / 50 ≤ w := by
  have hpos : (0 : Rat) < (p : Rat) + 1 := by positivity
  rw [stepsOf_percentOfWidth_periodUsOf w hp, le_rhu_iff, le_div_iff₀ hpos]
  constructor <;> intro h <;> linarith

/-- The three shapes of a pair tell which case of R98 gave it. -/
theorem onOffOf_eq_fullOff_iff {n : Int} : onOffOf n = (0, 4096) ↔ n < 0 := by
  refine ⟨fun h => ?_, onOffOf_of_neg⟩
  by_contra hn
  by_cases hfull : 4095 < n
  · rw [onOffOf_of_gt hfull] at h
    exact absurd h (by decide)
  · rw [onOffOf_of_mem_range (by omega) (by omega)] at h
    have off : BitVec.ofInt 13 n = 4096 := congrArg Prod.snd h
    have count := toNat_ofInt_stepCount (n := n) (by omega) (by omega)
    have fullOff : (4096 : StepNum).toNat = 4096 := rfl
    rw [off, fullOff] at count
    omega

theorem onOffOf_eq_fullOn_iff {n : Int} : onOffOf n = (4096, 0) ↔ 4095 < n := by
  refine ⟨fun h => ?_, onOffOf_of_gt⟩
  by_contra hn
  have on : (onOffOf n).1 = 0 := by
    rw [onOffOf, if_neg hn]
    split <;> rfl
  rw [h] at on
  exact absurd on (by decide)

/-- Settles O16: each threshold is the least width of one step count. -/
theorem pulseWidthThresholds : Obligations.PulseWidthThresholds := by
  intro w p hp _
  have hp0 : 0 ≤ p := by omega
  refine ⟨?off, ?full, ?one⟩
  case off =>
    have atZero : (2 * ((0 : Int) : Rat) - 1) * ((p : Rat) + 1) / 50 = -((p : Rat) + 1) / 50 := by push_cast; ring
    rw [onOffOf_eq_fullOff_iff, ← not_le, ← not_le, not_iff_not, le_stepsOf_percentOfWidth_iff hp0, atZero]
  case full =>
    have fullOn : 4095 < stepsOf (percentOfWidth w (periodUsOf p)) ↔ 4096 ≤ stepsOf (percentOfWidth w (periodUsOf p)) := by
      omega
    have atFull : (2 * ((4096 : Int) : Rat) - 1) * ((p : Rat) + 1) / 50 = periodUsOf p * (8191 / 8192) := by
      rw [periodUsOf_eq]; push_cast; ring
    rw [onOffOf_eq_fullOn_iff, fullOn, le_stepsOf_percentOfWidth_iff hp0, atFull]
  case one =>
    have atOne : (2 * ((1 : Int) : Rat) - 1) * ((p : Rat) + 1) / 50 = ((p : Rat) + 1) / 50 := by push_cast; ring
    rw [le_stepsOf_percentOfWidth_iff hp0, atOne]

/-! ### Operands of a word (30_encoding.md R57) -/

/-- The floor of an exact quotient of integers, the divisor of either sign. -/
theorem floor_div_eq_fdiv (a b : Int) : ((a : Rat) / b).floor = Int.fdiv a b := by
  obtain ⟨d, rfl | rfl⟩ := b.eq_nat_or_neg
  · rw [Int.fdiv_eq_ediv_of_nonneg _ (Int.natCast_nonneg d)]
    exact Rat.floor_intCast_div_natCast a d
  · have negated : (a : Rat) / ((-(d : Int) : Int) : Rat) = ((-a : Int) : Rat) / (d : Rat) := by
      push_cast
      rw [div_neg, neg_div]
    rw [negated, ← Int.neg_fdiv_neg, neg_neg, Int.fdiv_eq_ediv_of_nonneg _ (Int.natCast_nonneg d)]
    exact Rat.floor_intCast_div_natCast (-a) d

theorem floor_div_eq_ediv (a : Int) {b : Int} (hb : 0 < b) : ((a : Rat) / b).floor = a / b := by
  rw [floor_div_eq_fdiv, Int.fdiv_eq_ediv_of_nonneg _ hb.le]

/-- Settles O7: each conversion is the floor of one quotient of integers. -/
theorem wordOperandIntegerForms : Obligations.WordOperandIntegerForms := by
  intro opd
  refine ⟨fun hne => ?prescale, ?percent, fun p hp _ => ?width⟩
  case prescale =>
    have hne' : (opd.toInt : Rat) ≠ 0 := by exact_mod_cast hne
    rw [prescaleRaw_eq_floor, ← floor_div_eq_fdiv, decodeFixed]
    congr 1
    push_cast
    field_simp
    ring
  case percent =>
    rw [← floor_div_eq_ediv _ (by decide), stepsOf_eq_rhu, rhu, decodeFixed]
    congr 1
    push_cast
    ring
  case width =>
    have hpos : (0 : Rat) < (p : Rat) + 1 := by positivity
    rw [← periodUsOf_eq, stepsOf_percentOfWidth_periodUsOf _ (by omega), ← floor_div_eq_ediv _ (by omega), rhu, decodeFixed]
    congr 1
    push_cast
    field_simp
    ring

end Sys2Proof.Machine
end

section
/-! SUPPORT. The bytes that go to the chip (30_encoding.md R65 to R67) and the addresses they go to (43_duty_cycle.md R101),
the flags under the constraints of 00_scope.md R6. -/

namespace Sys2Proof.Machine

/-! ### The block of a pair (R65; the order of its bytes is log 10) -/

theorem toNat_lowByte (x : StepNum) : (x.extractLsb' 0 8).toNat = x.toNat % 256 := by
  rw [BitVec.extractLsb'_toNat, Nat.shiftRight_zero]

theorem toNat_highByte (x : StepNum) : ((x.extractLsb' 8 5).setWidth 8).toNat = x.toNat / 256 := by
  have hx : x.toNat < 8192 := x.isLt
  rw [BitVec.toNat_setWidth, BitVec.extractLsb'_toNat, Nat.shiftRight_eq_div_pow]
  omega

theorem lowByte_ofInt {n : Int} (h0 : 0 ≤ n) (h : n ≤ 4095) :
    (BitVec.ofInt 13 n).extractLsb' 0 8 = BitVec.ofInt 8 (n % 256) := by
  have count := toNat_ofInt_stepCount h0 h
  refine BitVec.eq_of_toNat_eq ?_
  rw [toNat_lowByte, BitVec.toNat_ofInt (n := 8)]
  omega

theorem highByte_ofInt {n : Int} (h0 : 0 ≤ n) (h : n ≤ 4095) :
    ((BitVec.ofInt 13 n).extractLsb' 8 5).setWidth 8 = BitVec.ofInt 8 (n / 256) := by
  have count := toNat_ofInt_stepCount h0 h
  refine BitVec.eq_of_toNat_eq ?_
  rw [toNat_highByte, BitVec.toNat_ofInt (n := 8)]
  omega

/-- The block of an ordinary count. -/
theorem blockOf_zero_ofInt {n : Int} (h0 : 0 ≤ n) (h : n ≤ 4095) :
    blockOf 0 (BitVec.ofInt 13 n) = ⟨0, 0, BitVec.ofInt 8 (n % 256), BitVec.ofInt 8 (n / 256)⟩ := by
  rw [blockOf, lowByte_ofInt h0 h, highByte_ofInt h0 h]
  rfl

/-- Settles O14: the bytes of any pair, and the pairs of R98 put in. -/
theorem blockBytes : Obligations.BlockBytes := by
  refine ⟨fun on off => ⟨toNat_lowByte on, toNat_highByte on, toNat_lowByte off, toNat_highByte off⟩,
    fun n h0 h => ?ordinary, fun n h => ?off, fun n h => ?full⟩
  case ordinary => rw [onOffOf_of_mem_range h0 h, blockOf_zero_ofInt h0 h]
  case off => rw [onOffOf_of_neg h]; decide
  case full => rw [onOffOf_of_gt h]; decide

/-! ### The flags (00_scope.md R6) -/

theorem isSingleBit_iff {b : Byte} : isSingleBit b = true ↔ ∃ k < 8, b = BitVec.ofNat 8 (2 ^ k) := by
  simp [isSingleBit]

/-- Two flags on different bits do not overlap. -/
theorem and_eq_zero_of_isSingleBit {a b : Byte} (ha : isSingleBit a = true) (hb : isSingleBit b = true) (hne : a ≠ b) :
    a &&& b = 0 := by
  have disjoint : ∀ k < 8, ∀ l < 8, BitVec.ofNat 8 (2 ^ k) ≠ BitVec.ofNat 8 (2 ^ l) →
      BitVec.ofNat 8 (2 ^ k) &&& BitVec.ofNat 8 (2 ^ l) = 0 := by decide
  obtain ⟨k, hk, rfl⟩ := isSingleBit_iff.mp ha
  obtain ⟨l, hl, rfl⟩ := isSingleBit_iff.mp hb
  exact disjoint k hk l hl hne

/-- What R6's constraints say of the bytes beside the sleep bit. -/
theorem Params.sleep_disjoint {c : Params} (h : c.wf = true) :
    c.m1Ai &&& c.m1Sleep = 0 ∧ c.m1AllCall &&& c.m1Sleep = 0 ∧ c.m1Restart &&& c.m1Sleep = 0 := by
  simp only [Params.wf, Bool.and_eq_true, decide_eq_true_eq, List.nodup_cons, List.mem_cons, not_or] at h
  obtain ⟨⟨⟨⟨⟨⟨⟨⟨ai, allCall⟩, sleep⟩, restart⟩, -⟩, -⟩, ⟨-, aiSleep, -⟩, ⟨allCallSleep, -⟩, ⟨sleepRestart, -⟩, -⟩, -⟩, -⟩ := h
  exact ⟨and_eq_zero_of_isSingleBit ai sleep aiSleep, and_eq_zero_of_isSingleBit allCall sleep allCallSleep,
    and_eq_zero_of_isSingleBit restart sleep (Ne.symm sleepRestart)⟩

theorem Params.channels_fit {c : Params} (h : c.wf = true) : c.regChBase.toNat + 63 ≤ 255 := by
  simp only [Params.wf, Bool.and_eq_true, decide_eq_true_eq] at h
  exact h.2

section Bits
variable {w : Nat} (b m : BitVec w)

/-- Clearing a mask clears it, and keeps what lies outside. -/
theorem clear_and_mask : b &&& ~~~m &&& m = 0 := by
  rw [BitVec.and_assoc, BitVec.and_comm (~~~m), BitVec.and_not_self]
  exact BitVec.and_zero

theorem clear_and_compl : b &&& ~~~m &&& ~~~m = b &&& ~~~m := by
  rw [BitVec.and_assoc, BitVec.and_self]

/-- Setting a mask sets it, and keeps what lies outside. -/
theorem set_and_mask : (b ||| m) &&& m = m := by
  ext i hi
  simp only [BitVec.getElem_and, BitVec.getElem_or]
  cases b[i] <;> cases m[i] <;> rfl

theorem set_and_compl : (b ||| m) &&& ~~~m = b &&& ~~~m := by
  rw [BitVec.and_or_distrib_right, BitVec.and_not_self]
  exact BitVec.or_zero

theorem set_eq_clear_or : b ||| m = b &&& ~~~m ||| m := by
  ext i hi
  simp only [BitVec.getElem_and, BitVec.getElem_or, BitVec.getElem_not]
  cases b[i] <;> cases m[i] <;> rfl

theorem or_and_of_disjoint {m' : BitVec w} (h : m &&& m' = 0) : (b ||| m) &&& m' = b &&& m' := by
  rw [BitVec.and_or_distrib_right, h]
  exact BitVec.or_zero

end Bits

theorem restartByte_keeps_sleep {c : Params} (h : c.wf = true) (b : Byte) :
    restartByte c b &&& c.m1Sleep = b &&& c.m1Sleep :=
  or_and_of_disjoint b _ (Params.sleep_disjoint h).2.2

/-- Settles O17: clearing and setting a mask, and the disjointness of the flags for the last two. -/
theorem modeByteBits : Obligations.ModeByteBits := by
  intro c b h
  obtain ⟨ai, allCall, -⟩ := Params.sleep_disjoint h
  refine ⟨clear_and_mask b _, clear_and_compl b _, set_and_mask b _, set_and_compl b _, set_eq_clear_or b _,
    set_and_mask b _, set_and_compl b _, restartByte_keeps_sleep h b, ?_⟩
  rw [mode1InitByte, or_and_of_disjoint _ _ allCall, ai]

/-! ### Addresses (43_duty_cycle.md R101) -/

theorem addrOf_single (c : Params) (k : Fin 16) :
    addrOf c (.single k) = some (c.regChBase + BitVec.ofNat 8 (4 * k.val)) := rfl

/-- Settles O27: R6's bound keeps the sum below 256. -/
theorem channelAddresses : Obligations.ChannelAddresses := by
  refine fun c h => ⟨rfl, fun k => ⟨_, addrOf_single c k, ?_⟩⟩
  have fits := Params.channels_fit h
  have hk : k.val < 16 := k.isLt
  rw [BitVec.toNat_add, BitVec.toNat_ofNat]
  omega

end Sys2Proof.Machine
end

section
/-! SUPPORT. The invariant of a run (10_state.md R13 to R23) position by position: at a step of a command it fixes the
registers and the transients by the position (`RegistersAt`, `TransientsAt`), between commands by `life` (`SettledAs`). -/

namespace Sys2Proof.Machine

/-! ### At a step of a command -/

/-- `life` at a step of a command: INIT runs in UNOPENED, any other in READY (60_exceptions.md R139). -/
def Phase.lifeThere (p : Phase) : Life := if p.inInit then .UNOPENED else .READY

/-- Every step but I1 has a handle (R15). -/
def Phase.hasHandle : Phase → Bool
  | .I1 => false
  | _ => true

/-- The frequency is programmed at every step but INIT's before its step I8 (R19). -/
def Phase.hasFrequency (p : Phase) : Bool := !p.inInit || decide (p = .I8)

/-- What the invariant says of the registers at the step `p` of a command in progress. -/
structure RegistersAt (p : Phase) (s : State) : Prop where
  legalParams : s.cfg.wf = true
  life : s.life = p.lifeThere
  handle : s.busHandle.isSome = p.hasHandle
  frequency : if p.hasFrequency then Programmed s else s.frequencyHz = none ∧ s.pulseWidthUs = none
  operands : s.busNumber ≠ none ∧ s.devAddress ≠ none
  noResponse : s.rsp = none

/-- What the invariant says of the transients at the step `p`. -/
structure TransientsAt (p : Phase) (s : State) : Prop where
  timer : s.settleTimer = none ∨ s.settleTimer = some 500 ∧ p.isDelay = true
  mHeld : s.m.isSome = p.holdsM
  prescaleHeld : if p.holdsPrescale then ∃ n, s.prescale = some n ∧ 3 ≤ n ∧ n ≤ 255 else s.prescale = none
  dutyHeld : if p.holdsDuty then DutyHeld s
    else s.percent = none ∧ s.steps = none ∧ s.onStep = none ∧ s.offStep = none ∧ s.target = none
  deferredHeld : s.deferred ≠ none → p = .X2

theorem Phase.hasHandle_iff {p : Phase} : p.hasHandle = true ↔ p ≠ .I1 := by
  cases p <;> simp [Phase.hasHandle]

theorem Phase.lifeThere_of_inInit {p : Phase} (h : p.inInit = true) : p.lifeThere = .UNOPENED := if_pos h

theorem Phase.lifeThere_of_not_inInit {p : Phase} (h : p.inInit = false) : p.lifeThere = .READY := by
  rw [Phase.lifeThere, h]; rfl

theorem Phase.hasFrequency_of_inInit {p : Phase} (h : p.inInit = true) : p.hasFrequency = decide (p = .I8) := by
  rw [Phase.hasFrequency, h]; rfl

theorem Phase.hasFrequency_of_not_inInit {p : Phase} (h : p.inInit = false) : p.hasFrequency = true := by
  rw [Phase.hasFrequency, h]; rfl

theorem Inv.transientsAt {s : State} (i : Inv s) : TransientsAt s.phase s :=
  ⟨i.timer, i.mHeld, i.prescaleHeld, i.dutyHeld, i.deferredHeld⟩

theorem Inv.registersAt {s : State} (i : Inv s) (hp : s.phase ≠ .IDLE) : RegistersAt s.phase s where
  legalParams := i.legalParams
  life := by
    cases hinit : s.phase.inInit with
    | true => rw [Phase.lifeThere_of_inInit hinit, (i.initRuns hinit).1]
    | false => rw [Phase.lifeThere_of_not_inInit hinit, i.otherRuns hp hinit]
  handle := by
    rw [Bool.eq_iff_iff, Option.isSome_iff_ne_none, Phase.hasHandle_iff]
    cases hinit : s.phase.inInit with
    | true =>
      obtain ⟨hlife, hhandle⟩ := i.initRuns hinit
      exact ⟨fun h h1 => h (i.noHandle hlife (.inr h1)), hhandle⟩
    | false => exact iff_of_true (i.ready (i.otherRuns hp hinit)).1 (by rintro h1; rw [h1] at hinit; cases hinit)
  frequency := by
    cases hinit : s.phase.inInit with
    | true =>
      rw [Phase.hasFrequency_of_inInit hinit]
      by_cases h8 : s.phase = .I8
      · rw [if_pos (by simpa using h8)]; exact i.afterI7 h8
      · rw [if_neg (by simpa using h8)]; exact i.noFrequency (i.initRuns hinit).1 h8
    | false => rw [Phase.hasFrequency_of_not_inInit hinit]; exact (i.ready (i.otherRuns hp hinit)).2
  operands := i.operands (.inr hp)
  noResponse := by_contra fun h => hp (i.response h)

namespace RegistersAt

variable {s : State} {p : Phase}

/-- The registers are at no position without two equal or two empty frequency registers (R19). -/
theorem paired (h : RegistersAt p s) : (s.frequencyHz = none ∧ s.pulseWidthUs = none) ∨ Programmed s := by
  have frequency := h.frequency
  split at frequency
  · exact .inr frequency
  · exact .inl frequency

theorem programmed (h : RegistersAt p s) (hp : p.hasFrequency = true := by rfl) : Programmed s := by
  have frequency := h.frequency
  rwa [if_pos hp] at frequency

theorem unprogrammed (h : RegistersAt p s) (hp : p.hasFrequency = false := by rfl) :
    s.frequencyHz = none ∧ s.pulseWidthUs = none := by
  have frequency := h.frequency
  rwa [hp, if_neg Bool.false_ne_true] at frequency

theorem handle_ne_none (h : RegistersAt p s) (hp : p ≠ .I1 := by nofun) : s.busHandle ≠ none :=
  Option.isSome_iff_ne_none.mp (h.handle.trans (Phase.hasHandle_iff.mpr hp))

/-- What the position says of the registers is the invariant. -/
theorem inv (h : RegistersAt s.phase s) (held : TransientsAt s.phase s) (hp : s.phase ≠ .IDLE) : Inv s := by
  have hready : s.life = .READY → s.phase.inInit = false := fun hl => by
    by_contra hinit
    have := h.life.symm.trans hl
    rw [Phase.lifeThere_of_inInit (by simpa using hinit)] at this
    cases this
  have hunopened : s.life = .UNOPENED → s.phase.inInit = true := fun hl => by
    by_contra hinit
    have := h.life.symm.trans hl
    rw [Phase.lifeThere_of_not_inInit (by simpa using hinit)] at this
    cases this
  have hclosed : s.life ≠ .CLOSED := by
    rw [h.life, Phase.lifeThere]
    split <;> nofun
  refine
    { legalParams := h.legalParams
      paired := h.paired
      ready := fun hl => ⟨h.handle_ne_none ?_, h.programmed (Phase.hasFrequency_of_not_inInit (hready hl))⟩
      closed := fun hl => absurd hl hclosed
      unopened := fun hl => .inr (hunopened hl)
      noHandle := fun _ hp' => ?_
      noFrequency := fun hl h8 => h.unprogrammed ?_
      initRuns := fun hinit => ⟨h.life.trans (Phase.lifeThere_of_inInit hinit), fun h1 => h.handle_ne_none h1⟩
      afterI7 := fun h8 => h.programmed (by rw [h8]; rfl)
      otherRuns := fun _ hinit => h.life.trans (Phase.lifeThere_of_not_inInit hinit)
      operands := fun _ => h.operands
      response := fun hr => absurd h.noResponse hr
      timer := held.timer
      mHeld := held.mHeld
      prescaleHeld := held.prescaleHeld
      dutyHeld := held.dutyHeld
      deferredHeld := held.deferredHeld }
  case refine_1 =>
    rintro h1
    have := hready hl
    rw [h1] at this
    cases this
  case refine_2 =>
    have h1 := hp'.resolve_left hp
    have := h.handle
    rw [h1] at this
    exact Option.isSome_eq_false_iff.mp this |> Option.isNone_iff_eq_none.mp
  case refine_3 =>
    rw [Phase.hasFrequency_of_inInit (hunopened hl)]
    exact decide_eq_false h8

end RegistersAt

/-! ### Between commands -/

/-- What the invariant says of the registers between commands, by `life`. -/
def SettledAs (s : State) : Life → Prop
  | .UNOPENED => s.busHandle = none ∧ s.frequencyHz = none ∧ s.pulseWidthUs = none
  | .READY => s.busHandle ≠ none ∧ Programmed s ∧ s.busNumber ≠ none ∧ s.devAddress ≠ none
  | .CLOSED => s.busHandle = none ∧ Programmed s ∧ s.busNumber ≠ none ∧ s.devAddress ≠ none
  | .FAILED => ((s.frequencyHz = none ∧ s.pulseWidthUs = none) ∨ Programmed s) ∧ s.busNumber ≠ none ∧ s.devAddress ≠ none

/-- Between commands the invariant is quiet transients and settled registers; a response may be pending. -/
theorem inv_of_settled {s : State} (hlegal : s.cfg.wf = true) (hsettled : SettledAs s s.life)
    (q : Quiet { s with rsp := none }) : Inv s := by
  have idle : s.phase = .IDLE := q.phase
  have paired : (s.frequencyHz = none ∧ s.pulseWidthUs = none) ∨ Programmed s := by
    cases hl : s.life <;> rw [hl] at hsettled
    case UNOPENED => exact .inl hsettled.2
    case READY => exact .inr hsettled.2.1
    case CLOSED => exact .inr hsettled.2.1
    case FAILED => exact hsettled.1
  have operands : s.life ≠ .UNOPENED → s.busNumber ≠ none ∧ s.devAddress ≠ none := by
    cases hl : s.life <;> rw [hl] at hsettled
    case UNOPENED => exact fun h => absurd rfl h
    case READY => exact fun _ => hsettled.2.2
    case CLOSED => exact fun _ => hsettled.2.2
    case FAILED => exact fun _ => hsettled.2
  exact
    { legalParams := hlegal
      paired := paired
      ready := fun hl => by rw [hl] at hsettled; exact ⟨hsettled.1, hsettled.2.1⟩
      closed := fun hl => by rw [hl] at hsettled; exact ⟨hsettled.1, hsettled.2.1⟩
      unopened := fun _ => .inl idle
      noHandle := fun hl _ => by rw [hl] at hsettled; exact hsettled.1
      noFrequency := fun hl _ => by rw [hl] at hsettled; exact hsettled.2
      initRuns := fun h => by rw [idle] at h; cases h
      afterI7 := fun h => by rw [idle] at h; cases h
      otherRuns := fun h _ => absurd idle h
      operands := fun h => operands (h.resolve_right (absurd idle))
      response := fun _ => idle
      timer := .inl q.settleTimer
      mHeld := by rw [idle, show s.m = none from q.m]; rfl
      prescaleHeld := by rw [idle]; exact q.prescale
      dutyHeld := by rw [idle]; exact ⟨q.percent, q.steps, q.onStep, q.offStep, q.target⟩
      deferredHeld := fun h => absurd q.deferred h }

theorem Inv.settled {s : State} (i : Inv s) (hp : s.phase = .IDLE) : SettledAs s s.life := by
  cases hl : s.life with
  | UNOPENED => exact ⟨i.noHandle hl (.inl hp), i.noFrequency hl (by rw [hp]; nofun)⟩
  | READY => exact ⟨(i.ready hl).1, (i.ready hl).2, i.operands (.inl (by rw [hl]; nofun))⟩
  | CLOSED => exact ⟨(i.closed hl).1, (i.closed hl).2, i.operands (.inl (by rw [hl]; nofun))⟩
  | FAILED => exact ⟨i.paired, i.operands (.inl (by rw [hl]; nofun))⟩

theorem quiet_finish (s : State) (r : Response) : Quiet { finish s r with rsp := none } :=
  ⟨rfl, rfl, rfl, rfl, rfl, rfl, rfl, rfl, rfl, rfl, rfl⟩

theorem inv_finish {s : State} (r : Response) (hlegal : s.cfg.wf = true) (hsettled : SettledAs s s.life) :
    Inv (finish s r) := by
  refine inv_of_settled hlegal ?_ (quiet_finish s r)
  show SettledAs (finish s r) s.life
  cases hl : s.life <;> rw [hl] at hsettled <;> exact hsettled

end Sys2Proof.Machine
end

section
/-! SUPPORT. Every step keeps the invariant: what each operation of a sequencer step makes of the registers and the
transients of a position, then one case for each position. -/

namespace Sys2Proof.Machine

/-! ### Registers from a step to the next -/

/-- Two positions that say the same of the registers. -/
structure SameRegisters (p p' : Phase) : Prop where
  life : p.lifeThere = p'.lifeThere := by rfl
  handle : p.hasHandle = p'.hasHandle := by rfl
  frequency : p.hasFrequency = p'.hasFrequency := by rfl

namespace RegistersAt

variable {s : State} {p p' : Phase}

theorem move (h : RegistersAt p s) (same : SameRegisters p p' := by exact {}) : RegistersAt p' s :=
  { h with life := h.life.trans same.life, handle := h.handle.trans same.handle, frequency := same.frequency ▸ h.frequency }

/-- Step I1 stores the handle (20_memory.md R33). -/
theorem storeHandle (h : RegistersAt .I1 s) (v : Handle) : RegistersAt .I2 { s with busHandle := some v } :=
  { h with handle := rfl }

end RegistersAt

/-! ### Transients from a step to the next -/

/-- No transient holds a value, and no settle delay runs. -/
structure Bare (s : State) : Prop where
  timer : s.settleTimer = none
  m : s.m = none
  prescale : s.prescale = none
  duty : s.percent = none ∧ s.steps = none ∧ s.onStep = none ∧ s.offStep = none ∧ s.target = none
  deferred : s.deferred = none

theorem Quiet.bare {s : State} (q : Quiet s) : Bare s :=
  ⟨q.settleTimer, q.m, q.prescale, ⟨q.percent, q.steps, q.onStep, q.offStep, q.target⟩, q.deferred⟩

/-- The positions at which the transients are to hold nothing. -/
structure Phase.HoldsNothing (p : Phase) : Prop where
  m : p.holdsM = false := by rfl
  prescale : p.holdsPrescale = false := by rfl
  duty : p.holdsDuty = false := by rfl

namespace TransientsAt

variable {s : State} {p p' : Phase}

theorem timer_none (h : TransientsAt p s) (hp : p.isDelay = false := by rfl) : s.settleTimer = none :=
  h.timer.resolve_right fun running => by rw [hp] at running; exact absurd running.2 Bool.false_ne_true

theorem deferred_none (h : TransientsAt p s) (hX2 : p ≠ .X2 := by nofun) : s.deferred = none :=
  by_contra fun hd => hX2 (h.deferredHeld hd)

theorem m_none (h : TransientsAt p s) (hp : p.holdsM = false := by rfl) : s.m = none :=
  Option.isNone_iff_eq_none.mp (Option.isSome_eq_false_iff.mp (h.mHeld.trans hp))

theorem prescale_none (h : TransientsAt p s) (hp : p.holdsPrescale = false := by rfl) : s.prescale = none := by
  have held := h.prescaleHeld
  rwa [hp, if_neg Bool.false_ne_true] at held

theorem duty_none (h : TransientsAt p s) (hp : p.holdsDuty = false := by rfl) :
    s.percent = none ∧ s.steps = none ∧ s.onStep = none ∧ s.offStep = none ∧ s.target = none := by
  have held := h.dutyHeld
  rwa [hp, if_neg Bool.false_ne_true] at held

theorem bare (h : TransientsAt p s) (htimer : s.settleTimer = none) (hp : p.HoldsNothing := by exact {})
    (hX2 : p ≠ .X2 := by nofun) : Bare s :=
  ⟨htimer, h.m_none hp.m, h.prescale_none hp.prescale, h.duty_none hp.duty, h.deferred_none hX2⟩

/-- From a step to the next where no transient changes. -/
theorem move (h : TransientsAt p s) (htimer : s.settleTimer = none) (hm : p.holdsM = p'.holdsM := by rfl)
    (hprescale : p.holdsPrescale = p'.holdsPrescale := by rfl) (hduty : p.holdsDuty = p'.holdsDuty := by rfl)
    (hX2 : p ≠ .X2 := by nofun) : TransientsAt p' s where
  timer := .inl htimer
  mHeld := h.mHeld.trans hm
  prescaleHeld := hprescale ▸ h.prescaleHeld
  dutyHeld := hduty ▸ h.dutyHeld
  deferredHeld := fun hd => absurd (h.deferredHeld hd) hX2

/-- A read gives `m` a byte (R21). -/
theorem setM (h : TransientsAt p s) (b : Byte) (htimer : s.settleTimer = none) (hm : p'.holdsM = true := by rfl)
    (hprescale : p.holdsPrescale = p'.holdsPrescale := by rfl) (hduty : p.holdsDuty = p'.holdsDuty := by rfl)
    (hX2 : p ≠ .X2 := by nofun) : TransientsAt p' { s with m := some b } where
  timer := .inl htimer
  mHeld := hm.symm
  prescaleHeld := hprescale ▸ h.prescaleHeld
  dutyHeld := hduty ▸ h.dutyHeld
  deferredHeld := fun hd => absurd (h.deferredHeld hd) hX2

theorem clearFreq (h : TransientsAt p s) (htimer : s.settleTimer = none) (hduty : p.holdsDuty = false := by rfl)
    (hX2 : p ≠ .X2 := by nofun) : Bare s.clearFreq :=
  ⟨htimer, rfl, rfl, h.duty_none hduty, h.deferred_none hX2⟩

theorem clearDuty (h : TransientsAt p s) (htimer : s.settleTimer = none) (hm : p.holdsM = false := by rfl)
    (hprescale : p.holdsPrescale = false := by rfl) (hX2 : p ≠ .X2 := by nofun) : Bare s.clearDuty :=
  ⟨htimer, h.m_none hm, h.prescale_none hprescale, ⟨rfl, rfl, rfl, rfl, rfl⟩, h.deferred_none hX2⟩

/-- The prescale step F7 stores is one of R83's range (R22). -/
theorem programmed_of_prescale (h : TransientsAt p s) (hp : p.holdsPrescale = true := by rfl) :
    Programmed { s with
      frequencyHz := some (freqOf s.readPrescale)
      pulseWidthUs := some (periodUsOf s.readPrescale) } := by
  have held := h.prescaleHeld
  rw [if_pos hp] at held
  obtain ⟨n, hn, hlow, hhigh⟩ := held
  have read : s.readPrescale = n := by rw [State.readPrescale, hn]; rfl
  exact ⟨n, hlow, hhigh, by rw [read, freqOf_eq], by rw [read, periodUsOf_eq]⟩

end TransientsAt

namespace Bare

variable {s : State} {p : Phase}

theorem transientsAt (h : Bare s) (hp : p.HoldsNothing := by exact {}) : TransientsAt p s where
  timer := .inl h.timer
  mHeld := by rw [h.m, hp.m]; rfl
  prescaleHeld := by rw [hp.prescale]; exact h.prescale
  dutyHeld := by rw [hp.duty]; exact h.duty
  deferredHeld := fun hd => absurd h.deferred hd

/-- Entering SETFREQ gives `prescale` a clamped value (R22). -/
theorem enterFreq (h : Bare s) (wrap : FreqStep → Phase) (hz : Rat) (hm : p.holdsM = false := by rfl)
    (hprescale : p.holdsPrescale = true := by rfl) (hduty : p.holdsDuty = false := by rfl) :
    TransientsAt p (enterFreq wrap hz s) where
  timer := .inl h.timer
  mHeld := by rw [hm]; exact Option.isSome_eq_false_iff.mpr (Option.isNone_iff_eq_none.mpr h.m)
  prescaleHeld := by rw [hprescale]; exact ⟨_, rfl, prescaleOf_mem_range hz⟩
  dutyHeld := by rw [hduty]; exact h.duty
  deferredHeld := fun hd => absurd h.deferred hd

/-- Entering SETDUTY at the address of a block gives its transients values (R23). -/
theorem enterDuty (h : Bare s) (q : Phase) (x : Rat) {a : RegAddr}
    (ha : a = s.cfg.regAllBase ∨ ∃ c : Nat, c < 16 ∧ a = s.cfg.regChBase + BitVec.ofNat 8 (4 * c))
    (hm : p.holdsM = false := by rfl) (hprescale : p.holdsPrescale = false := by rfl)
    (hduty : p.holdsDuty = true := by rfl) : TransientsAt p (enterDuty q a x s) where
  timer := .inl h.timer
  mHeld := by rw [hm]; exact Option.isSome_eq_false_iff.mpr (Option.isNone_iff_eq_none.mpr h.m)
  prescaleHeld := by rw [hprescale]; exact h.prescale
  dutyHeld := by rw [hduty]; exact ⟨x, a, rfl, rfl, rfl, rfl, rfl, ha⟩
  deferredHeld := fun hd => absurd h.deferred hd

end Bare

/-! ### The end of a command -/

/-- INIT that fails: FAILED, its operands kept (60_exceptions.md R119). -/
theorem RegistersAt.inv_failed {s : State} {p : Phase} (h : RegistersAt p s) (r : Response) :
    Inv (finish { s with life := .FAILED } r) :=
  inv_finish r h.legalParams (show SettledAs _ .FAILED from ⟨h.paired, h.operands⟩)

theorem inv_finish_READY {s : State} (r : Response) (hlegal : s.cfg.wf = true) (hlife : s.life = .READY)
    (hhandle : s.busHandle ≠ none) (programmed : Programmed s) (operands : s.busNumber ≠ none ∧ s.devAddress ≠ none) :
    Inv (finish s r) :=
  inv_finish r hlegal (hlife ▸ ⟨hhandle, programmed, operands⟩)

/-- A host's command of READY that ends there. -/
theorem RegistersAt.inv_ready {s : State} {p : Phase} (h : RegistersAt p s) (r : Response)
    (hlife : p.lifeThere = .READY := by rfl) (hhandle : p ≠ .I1 := by nofun) (hfreq : p.hasFrequency = true := by rfl) :
    Inv (finish s r) :=
  inv_finish_READY r h.legalParams (h.life.trans hlife) (h.handle_ne_none hhandle) (h.programmed hfreq) h.operands

theorem inv_raise {s : State} {p : Phase} (hp : s.phase = p) (h : RegistersAt p s) (e : Response)
    (hX1 : p ≠ .X1 := by nofun) : Inv (raise s e) := by
  cases hinit : p.inInit with
  | true => rw [raise_inInit s e (hp ▸ hinit)]; exact h.inv_failed e
  | false =>
    rw [raise_other s e (hp ▸ hinit) (hp ▸ hX1)]
    exact h.inv_ready e (Phase.lifeThere_of_not_inInit hinit) (by rintro rfl; cases hinit)
      (Phase.hasFrequency_of_not_inInit hinit)

/-! ### One step at each kind of position -/

theorem inv_goTo {s : State} {p : Phase} (h : RegistersAt p s) (held : TransientsAt p s) (hp : p ≠ .IDLE := by nofun) :
    Inv (goTo p s) :=
  RegistersAt.inv (s := goTo p s) { h with } { held with } hp

/-- A call leaves registers and transients of its position as they are. -/
theorem RegistersAt.call {s : State} {p : Phase} (h : RegistersAt p s) (e : Event) : RegistersAt p (s.draw.emit e) :=
  { h with }

theorem TransientsAt.call {s : State} {p : Phase} (h : TransientsAt p s) (e : Event) : TransientsAt p (s.draw.emit e) :=
  { h with }

/-- A call that fails. -/
theorem inv_raise_call {s : State} {p : Phase} (hp : s.phase = p) (h : RegistersAt p s) (ev : Event) (e : Response)
    (hX1 : p ≠ .X1 := by nofun) : Inv (raise (s.draw.emit ev) e) :=
  inv_raise (s := s.draw.emit ev) hp (h.call ev) e hX1

section Steps
variable {s : State} {p : Phase} {after done : State → State} (hp : s.phase = p) (h : RegistersAt p s)
include hp h

theorem inv_openStep (held : Bare s) (hI1 : p = .I1) : Inv (openStep s) := by
  subst hI1
  cases ha : s.answer.ok
  · rw [openStep_fail s ha]; exact inv_raise_call hp h _ _
  · rw [openStep_ok s ha]
    exact inv_goTo ((h.call _).storeHandle _) (Bare.transientsAt { held with })

theorem inv_writeStep (a : RegAddr) (v : Byte) (hX1 : p ≠ .X1 := by nofun)
    (hafter : Inv (after (s.draw.emit (.write s.busHandle a v true)))) : Inv (writeStep s a v after) := by
  cases ha : s.answer.ok
  · rw [writeStep_fail s a v after ha]; exact inv_raise_call hp h _ _ hX1
  · rw [writeStep_ok s a v after ha]; exact hafter

theorem inv_readModeStep {next : Phase} (hX1 : p ≠ .X1 := by nofun) (hnext : next ≠ .IDLE := by nofun)
    (same : SameRegisters p next := by exact {}) (hm : ∀ b, TransientsAt next { s with m := some b }) :
    Inv (readModeStep s next) := by
  cases ha : s.answer.ok
  · rw [readModeStep_fail s next ha]; exact inv_raise_call hp h _ _ hX1
  · rw [readModeStep_ok s next ha]
    exact inv_goTo { h.move same with } { hm s.answer.byte with } hnext

theorem inv_delayStep (held : TransientsAt p s) (hdelay : p.isDelay = true := by rfl) (hidle : p ≠ .IDLE := by nofun)
    (hafter : Inv (after { s with settleTimer := none })) : Inv (delayStep s after) := by
  cases ht : s.settleTimer with
  | none =>
    rw [delayStep_start s after ht]
    refine RegistersAt.inv { hp ▸ h with } { hp ▸ held with timer := .inr ⟨rfl, hp ▸ hdelay⟩ } (hp ▸ hidle)
  | some n => rw [delayStep_end s after n ht]; exact hafter

theorem inv_dutyStep (hX1 : p ≠ .X1 := by nofun)
    (hdone : Inv (done (s.draw.emit (.block s.busHandle s.readTarget (blockOf s.readOn s.readOff) true)).clearDuty)) :
    Inv (dutyStep done s) := by
  cases ha : s.answer.ok
  · rw [dutyStep_fail s done ha]; exact inv_raise_call hp h _ _ hX1
  · rw [dutyStep_ok s done ha]; exact hdone

end Steps

/-- The positions of SETFREQ's steps, a host's or INIT's: what they say of the registers and of the transients. -/
structure FreqPositions (wrap : FreqStep → Phase) : Prop where
  registers : ∀ f g, SameRegisters (wrap f) (wrap g)
  isDelay : ∀ f, (wrap f).isDelay = decide (f = .F5)
  holdsM : ∀ f, (wrap f).holdsM = decide (f ≠ .F1)
  holdsPrescale : ∀ f, (wrap f).holdsPrescale = true
  holdsDuty : ∀ f, (wrap f).holdsDuty = false
  running : ∀ f, wrap f ≠ .IDLE ∧ wrap f ≠ .X1 ∧ wrap f ≠ .X2

theorem freqPositions_F : FreqPositions .F := by
  constructor <;> intro f
  case registers => exact fun _ => {}
  case running => exact ⟨nofun, nofun, nofun⟩
  all_goals cases f <;> rfl

theorem freqPositions_I7 : FreqPositions .I7 := by
  constructor <;> intro f
  case registers => exact fun _ => {}
  case running => exact ⟨nofun, nofun, nofun⟩
  all_goals cases f <;> rfl

/-- From a step of SETFREQ behind its read to another. -/
theorem FreqPositions.move {wrap : FreqStep → Phase} (w : FreqPositions wrap) {s : State} {f g : FreqStep}
    (held : TransientsAt (wrap f) s) (htimer : s.settleTimer = none) (hf : f ≠ .F1 := by nofun)
    (hg : g ≠ .F1 := by nofun) : TransientsAt (wrap g) s :=
  held.move htimer ((w.holdsM f).trans ((decide_eq_true hf).trans ((w.holdsM g).trans (decide_eq_true hg)).symm))
    ((w.holdsPrescale f).trans (w.holdsPrescale g).symm) ((w.holdsDuty f).trans (w.holdsDuty g).symm) (w.running f).2.2

section FreqSteps
variable {wrap : FreqStep → Phase} {s : State} {f : FreqStep}

theorem inv_freq_writeStep (w : FreqPositions wrap) (hp : s.phase = wrap f) (h : RegistersAt (wrap f) s)
    (held : TransientsAt (wrap f) s) (a : RegAddr) (v : Byte) (g : FreqStep) (hf : f ≠ .F1 := by nofun)
    (hf5 : f ≠ .F5 := by nofun) (hg : g ≠ .F1 := by nofun) : Inv (writeStep s a v (goTo (wrap g))) :=
  have htimer : s.settleTimer = none := held.timer_none ((w.isDelay f).trans (decide_eq_false hf5))
  inv_writeStep hp h a v (w.running f).2.1
    (inv_goTo ((h.call _).move (w.registers f g)) (w.move (held.call _) htimer hf hg) (w.running g).1)

/-- SETFREQ's steps, `done` being what follows the stored frequency. -/
theorem inv_freqStep {done : State → State} (w : FreqPositions wrap) (hp : s.phase = wrap f)
    (h : RegistersAt (wrap f) s) (held : TransientsAt (wrap f) s)
    (hdone : ∀ hz us, Programmed { s with frequencyHz := hz, pulseWidthUs := us } → Bare s.clearFreq →
      Inv (done ({ s with frequencyHz := hz, pulseWidthUs := us } : State).clearFreq)) :
    Inv (freqStep wrap done f s) := by
  have htimer (hf5 : f ≠ .F5) : s.settleTimer = none := held.timer_none ((w.isDelay f).trans (decide_eq_false hf5))
  have toF2 : (wrap .F1).holdsPrescale = (wrap .F2).holdsPrescale := by rw [w.holdsPrescale, w.holdsPrescale]
  have toF2' : (wrap .F1).holdsDuty = (wrap .F2).holdsDuty := by rw [w.holdsDuty, w.holdsDuty]
  cases f with
  | F1 =>
    exact inv_readModeStep hp h (w.running _).2.1 (w.running _).1 (w.registers _ _) fun b =>
      held.setM b (htimer nofun) (w.holdsM .F2) toF2 toF2' (w.running _).2.2
  | F2 => exact inv_freq_writeStep w hp h held _ _ .F3
  | F3 => exact inv_freq_writeStep w hp h held _ _ .F4
  | F4 => exact inv_freq_writeStep w hp h held _ _ .F5
  | F5 =>
    have stopped : TransientsAt (wrap .F5) { s with settleTimer := none } := { held with timer := .inl rfl }
    exact inv_delayStep hp h held (w.isDelay .F5) (w.running _).1
      (inv_goTo { h.move (w.registers .F5 .F6) with } (w.move stopped rfl) (w.running .F6).1)
  | F6 => exact inv_freq_writeStep w hp h held _ _ .F7
  | F7 =>
    exact hdone _ _ (held.programmed_of_prescale (w.holdsPrescale _))
      (held.clearFreq (htimer nofun) (w.holdsDuty _) (w.running _).2.2)

end FreqSteps

/-- Step X1 goes on to X2 whatever became of its block write (45_shutdown.md R116). -/
theorem inv_closeFirstStep {s : State} (hp : s.phase = .X1) (h : RegistersAt .X1 s) (held : TransientsAt .X1 s) :
    Inv (dutyStep (goTo .X2) s) := by
  have cleared : TransientsAt .X2 s.clearDuty := (held.clearDuty held.timer_none).transientsAt
  cases ha : s.answer.ok
  · rw [dutyStep_fail s _ ha, raise_X1 _ _ (by exact hp)]
    exact inv_goTo { h.move with } { cleared with deferredHeld := fun _ => rfl }
  · rw [dutyStep_ok s _ ha]
    exact inv_goTo { h.move with } { cleared with }

/-- One sequencer step keeps the invariant. -/
theorem inv_seqStep {s : State} (i : Inv s) : Inv (seqStep s) := by
  by_cases hidle : s.phase = .IDLE
  · rwa [seqStep_IDLE hidle]
  have h := i.registersAt hidle
  have held := i.transientsAt
  cases hp : s.phase <;> rw [hp] at h held
  case IDLE => exact absurd hp hidle
  case I1 => rw [seqStep_I1 hp]; exact inv_openStep hp h (held.bare held.timer_none) rfl
  case I2 =>
    rw [seqStep_I2 hp]
    exact inv_writeStep hp h _ _ (hafter := inv_goTo (h.call _).move ((held.call _).move held.timer_none))
  case I3 =>
    rw [seqStep_I3 hp]
    exact inv_writeStep hp h _ _ (hafter := inv_goTo (h.call _).move ((held.call _).move held.timer_none))
  case I4 =>
    have stopped : TransientsAt .I4 { s with settleTimer := none } := { held with timer := .inl rfl }
    rw [seqStep_I4 hp]
    exact inv_delayStep hp h held (hafter := inv_goTo { h.move with } (stopped.move rfl))
  case I5read =>
    rw [seqStep_I5read hp]
    exact inv_readModeStep hp h (hm := fun b => held.setM b held.timer_none)
  case I5write =>
    have cleared := (held.clearFreq held.timer_none).transientsAt (p := .I6)
    rw [seqStep_I5write hp]
    exact inv_writeStep hp h _ _ (hafter := inv_goTo { h.move with } { cleared with })
  case I6 =>
    have stopped : TransientsAt .I6 { s with settleTimer := none } := { held with timer := .inl rfl }
    have entered : TransientsAt (.I7 .F1) (enterFreq .I7 Config.defaultHz { s with settleTimer := none }) :=
      (stopped.bare rfl).enterFreq .I7 _
    rw [seqStep_I6 hp]
    exact inv_delayStep hp h held (hafter := RegistersAt.inv { h.move with } entered nofun)
  case I7 f =>
    rw [seqStep_I7 f hp]
    refine inv_freqStep freqPositions_I7 hp h held fun hz us programmed cleared => ?_
    have entered : TransientsAt .I8 (enterDuty .I8 s.cfg.regAllBase 0 s.clearFreq) := cleared.enterDuty .I8 0 (.inl rfl)
    exact RegistersAt.inv { h with frequency := programmed } { entered with } nofun
  case I8 =>
    rw [seqStep_I8 hp]
    exact inv_dutyStep hp h (hdone := inv_finish _ h.legalParams
      (show SettledAs _ .READY from ⟨h.handle_ne_none, h.programmed, h.operands⟩))
  case F f =>
    rw [seqStep_F f hp]
    exact inv_freqStep freqPositions_F hp h held fun hz us programmed _ =>
      inv_finish_READY _ h.legalParams h.life h.handle_ne_none programmed h.operands
  case D1 =>
    rw [seqStep_D1 hp]
    exact inv_dutyStep hp h (hdone :=
      inv_finish_READY _ h.legalParams h.life h.handle_ne_none h.programmed h.operands)
  case X1 =>
    rw [seqStep_X1 hp]
    exact inv_closeFirstStep hp h held
  case X2 =>
    rw [seqStep_X2 hp]
    exact inv_finish _ h.legalParams (show SettledAs _ .CLOSED from ⟨rfl, h.programmed, h.operands⟩)

theorem inv_seqSteps (n : Nat) {s : State} (i : Inv s) : Inv (seqSteps n s) := by
  induction n generalizing s with
  | zero => exact i
  | succ n ih => exact ih (inv_seqStep i)

end Sys2Proof.Machine
end

section
/-! SUPPORT. What beginning a command can do and what a step can do, each said once (60_exceptions.md R125, R134, R139;
70_reset_and_hazards.md R141); with it, that every step keeps the invariant. -/

namespace Sys2Proof.Machine

/-! ### Beginning a command -/

theorem lifecycle_eq_none_iff {l : Life} {c : Cmd} :
    lifecycle l c = none ↔ l = .UNOPENED ∧ c = .INIT ∨ l = .READY ∧ c ≠ .INIT := by
  cases l <;> cases c <;> simp [lifecycle]

theorem READY_of_lifecycle {l : Life} {c : Cmd} (h : lifecycle l c = none) (hc : c ≠ .INIT) : l = .READY := by
  obtain ⟨-, hinit⟩ | ⟨hready, -⟩ := lifecycle_eq_none_iff.mp h
  · exact absurd hinit hc
  · exact hready

/-- The commands that are answered on entry, and with what. -/
inductive Answers (s : State) : Instr → Response → Prop
  | refused {i r} (h : lifecycle s.life i.cmd = some r) : Answers s i r
  | value (h : s.life = .READY) : Answers s .getfreq (.okValue s.readFrequencyHz)
  | zero (h : s.life = .READY) : Answers s (.setfreq 0) .invalidOperandError
  | noChannel {i} (h : s.life = .READY) (hi : i.cmd = .SETDUTY ∨ i.cmd = .SETPW) : Answers s i .invalidChannelError

/-- The commands that are one block write of READY, with its address and percentage (44_pulse_width.md R110). -/
inductive WritesDuty (s : State) : Instr → RegAddr → Rat → Prop
  | setduty {ch a} x (ha : addrOf s.cfg ch = some a) : WritesDuty s (.setduty ch x) a x
  | setpw {ch a} w (ha : addrOf s.cfg ch = some a) :
      WritesDuty s (.setpw ch w) a (percentOfWidth w s.readPulseWidthUs)

/-- What the checks and the entry of a command can give: an answer at once, or the first step of one of four sequences. -/
inductive Begins (s : State) : Instr → State → Prop
  | answers {i r} (h : Answers s i r) : Begins s i (respond s r)
  | init bus address (h : s.life = .UNOPENED) :
      Begins s (.init bus address) (goTo .I1 { s with busNumber := some bus, devAddress := some address })
  | setfreq hz (h : s.life = .READY) (hne : hz ≠ 0) : Begins s (.setfreq hz) (enterFreq .F hz s)
  | duty {i a x} (h : s.life = .READY) (hi : WritesDuty s i a x) : Begins s i (enterDuty .D1 a x s)
  | close (h : s.life = .READY) : Begins s .close (enterDuty .X1 s.cfg.regAllBase 0 s)

theorem beginCommand_begins (i : Instr) (s : State) : Begins s i (beginCommand i s) := by
  cases hrun : lifecycle s.life i.cmd with
  | some r => rw [beginCommand_of_lifecycle hrun]; exact .answers (.refused hrun)
  | none =>
    cases i <;> rw [Instr.cmd] at hrun
    case init bus address =>
      have hlife : s.life = .UNOPENED := by simpa using lifecycle_eq_none_iff.mp hrun
      rw [beginCommand, beginInit, hrun]
      exact .init bus address hlife
    case setfreq hz =>
      have hready := READY_of_lifecycle hrun nofun
      rw [beginCommand, beginSetfreq, hrun]
      by_cases hzero : hz = 0
      · subst hzero; rw [if_pos rfl]; exact .answers (.zero hready)
      · rw [if_neg hzero]; exact .setfreq hz hready hzero
    case getfreq =>
      rw [beginCommand, beginGetfreq, hrun]
      exact .answers (.value (READY_of_lifecycle hrun nofun))
    case setduty ch x =>
      have hready := READY_of_lifecycle hrun nofun
      cases ha : addrOf s.cfg ch with
      | none => rw [beginCommand, beginSetduty_of_addrOf_none hready ha]; exact .answers (.noChannel hready (.inl rfl))
      | some a => rw [beginCommand, beginSetduty, hrun, ha]; exact .duty hready (.setduty x ha)
    case setpw ch w =>
      have hready := READY_of_lifecycle hrun nofun
      cases ha : addrOf s.cfg ch with
      | none => rw [beginCommand, beginSetpw_of_addrOf_none hready ha]; exact .answers (.noChannel hready (.inr rfl))
      | some a => rw [beginCommand, beginSetpw, hrun, ha]; exact .duty hready (.setpw w ha)
    case close =>
      rw [beginCommand, beginClose, hrun]
      exact .close (READY_of_lifecycle hrun nofun)

theorem addrOf_eq_some {c : Params} {ch : Channel} {a : RegAddr} (h : addrOf c ch = some a) :
    a = c.regAllBase ∨ ∃ k : Nat, k < 16 ∧ a = c.regChBase + BitVec.ofNat 8 (4 * k) := by
  cases ch with
  | single k => exact .inr ⟨k.val, k.isLt, (Option.some.inj h).symm⟩
  | all => exact .inl (Option.some.inj h).symm
  | outOfRange n =>
    cases hpolicy : c.chOorPolicy with
    | reject => rw [addrOf_outOfRange_reject hpolicy] at h; cases h
    | broadcast => rw [addrOf_outOfRange_broadcast hpolicy] at h; exact .inl (Option.some.inj h).symm

theorem WritesDuty.address {s : State} {i : Instr} {a : RegAddr} {x : Rat} (h : WritesDuty s i a x) :
    a = s.cfg.regAllBase ∨ ∃ k : Nat, k < 16 ∧ a = s.cfg.regChBase + BitVec.ofNat 8 (4 * k) := by
  cases h with
  | setduty x ha => exact addrOf_eq_some ha
  | setpw w ha => exact addrOf_eq_some ha

/-- The registers of an idle READY state are those of every step of a host's command. -/
theorem Inv.registersAt_of_READY {s : State} (i : Inv s) (q : Quiet s) (h : s.life = .READY) {p : Phase}
    (hlife : p.lifeThere = .READY := by rfl) (hhandle : p.hasHandle = true := by rfl)
    (hfreq : p.hasFrequency = true := by rfl) : RegistersAt p s where
  legalParams := i.legalParams
  life := h.trans hlife.symm
  handle := (Option.isSome_iff_ne_none.mpr (i.ready h).1).trans hhandle.symm
  frequency := by rw [hfreq]; exact (i.ready h).2
  operands := i.operands (.inl (by rw [h]; nofun))
  noResponse := q.rsp

theorem inv_respond {s : State} (i : Inv s) (hidle : s.phase = .IDLE) (r : Response) : Inv (respond s r) :=
  { i with response := fun _ => hidle }

theorem inv_beginCommand {s : State} (i : Inv s) (q : Quiet s) (c : Instr) : Inv (beginCommand c s) := by
  have hbegins := beginCommand_begins c s
  generalize beginCommand c s = t at hbegins ⊢
  cases hbegins with
  | answers => exact inv_respond i q.phase _
  | init bus address h =>
    have unopened := i.settled q.phase
    rw [h] at unopened
    refine RegistersAt.inv ⟨i.legalParams, h, ?_, unopened.2, ⟨nofun, nofun⟩, q.rsp⟩
      { q.bare.transientsAt (p := .I1) with } nofun
    exact Option.isSome_eq_false_iff.mpr (Option.isNone_iff_eq_none.mpr unopened.1)
  | setfreq hz h =>
    exact RegistersAt.inv { i.registersAt_of_READY q h (p := .F .F1) with } (q.bare.enterFreq .F hz) nofun
  | duty h hi =>
    exact RegistersAt.inv { i.registersAt_of_READY q h (p := .D1) with } (q.bare.enterDuty .D1 _ hi.address) nofun
  | close h =>
    exact RegistersAt.inv { i.registersAt_of_READY q h (p := .X1) with } (q.bare.enterDuty .X1 _ (.inl rfl)) nofun

/-! ### A step of the machine -/

/-- What a step can do: a reset that is due; or, the resets to come counted down (`ins`), one sequencer step, the delivery
of a response, nothing, the answer to an illegal word, or a command begun or run to its response. -/
inductive StepsTo (s : State) : State → Prop
  | reset rest (h : s.hostIn = .reset 0 :: rest) : StepsTo s (applyReset { s with hostIn := rest })
  | runs ins (h : s.phase ≠ .IDLE) : StepsTo s (seqStep { s with hostIn := ins })
  | delivers ins r (h : s.phase = .IDLE) : StepsTo s (deliver { s with hostIn := ins } r)
  | waits ins : StepsTo s { s with hostIn := ins }
  | illegal ins (h : s.accepts = true) : StepsTo s (respond { s with hostIn := ins } .illegalCommandError)
  | begins ins i (h : s.accepts = true) : StepsTo s (beginCommand i { s with hostIn := ins })
  | executes ins i (h : s.accepts = true) :
      StepsTo s (seqSteps maxSeqSteps (beginCommand i { s with hostIn := ins }))

theorem acceptWord_stepsTo (w : CmdWord) (s : State) (ins : List HostInput) (h : s.accepts = true) :
    ∃ t, acceptWord w { s with hostIn := ins } = .next t ∧ StepsTo s t := by
  have accepts : State.accepts { s with hostIn := ins } = true := h
  rw [acceptWord]
  cases decode w with
  | error e => exact ⟨_, rfl, .illegal ins h⟩
  | ok i =>
    cases hahead : resetAhead ins with
    | true => exact ⟨_, rfl, .begins ins i h⟩
    | false =>
      exact ⟨_, (exec_eq_runCommand i _).trans (congrArg _ (runCommand_accepts _ accepts)), .executes ins i h⟩

theorem portStep_stepsTo (s : State) (ins : List HostInput) :
    ∃ t, portStep { s with hostIn := ins } = .next t ∧ StepsTo s t := by
  unfold portStep
  split
  next hidle =>
    have hidle : s.phase = .IDLE := hidle
    split
    next r hr => exact ⟨_, rfl, .delivers ins r hidle⟩
    next hr =>
      have hr : s.rsp = none := hr
      split
      next w rest hins => exact acceptWord_stepsTo w s rest (by rw [State.accepts, hidle, hr]; rfl)
      next => exact ⟨_, rfl, .waits ins⟩
      next => exact ⟨_, rfl, .waits ins⟩
  next hrun => exact ⟨_, rfl, .runs ins hrun⟩

/-- Every step answers a next state, one of these. -/
theorem exists_stepsTo (s : State) : ∃ t, step s = .next t ∧ StepsTo s t := by
  unfold step hostStep
  split
  next rest hins => exact ⟨_, rfl, .reset rest hins⟩
  next n rest hins => exact portStep_stepsTo s _
  next => exact portStep_stepsTo s s.hostIn
  next => exact portStep_stepsTo s s.hostIn

theorem stepsTo_of_step {s t : State} (h : step s = .next t) : StepsTo s t := by
  obtain ⟨t', ht', steps⟩ := exists_stepsTo s
  obtain rfl : t' = t := Host.Outcome.next.inj (ht'.symm.trans h)
  exact steps

/-! ### The invariant -/

theorem Inv.with_hostIn {s : State} (i : Inv s) (ins : List HostInput) : Inv { s with hostIn := ins } := { i with }

/-- A reset keeps the parameters, and leaves nothing else the invariant speaks of. -/
theorem inv_applyReset {s : State} (hlegal : s.cfg.wf = true) : Inv (applyReset s) :=
  inv_of_settled hlegal (show SettledAs _ .UNOPENED from ⟨rfl, rfl, rfl⟩) ⟨rfl, rfl, rfl, rfl, rfl, rfl, rfl, rfl, rfl, rfl, rfl⟩

theorem StepsTo.inv {s t : State} (h : StepsTo s t) (i : Inv s) : Inv t := by
  cases h with
  | reset rest => exact inv_applyReset i.legalParams
  | runs ins => exact inv_seqStep (i.with_hostIn ins)
  | delivers ins r hidle => exact { i with response := fun _ => hidle }
  | waits ins => exact i.with_hostIn ins
  | illegal ins haccepts => exact inv_respond (i.with_hostIn ins) (i.quiet haccepts).phase _
  | begins ins c haccepts => exact inv_beginCommand (i.with_hostIn ins) ((i.with_hostIn ins).quiet haccepts) c
  | executes ins c haccepts =>
    exact inv_seqSteps _ (inv_beginCommand (i.with_hostIn ins) ((i.with_hostIn ins).quiet haccepts) c)

/-- Settles O53: by what a step can do, sequencer steps by their positions (`inv_seqStep`). -/
theorem stepKeepsInvariant : Obligations.StepKeepsInvariant := fun _ _ i h => (stepsTo_of_step h).inv i

/-- Settles O52. -/
theorem resetMeetsInvariant : Obligations.ResetMeetsInvariant :=
  inv_of_settled (by decide) (show SettledAs _ .UNOPENED from ⟨rfl, rfl, rfl⟩) ⟨rfl, rfl, rfl, rfl, rfl, rfl, rfl, rfl, rfl, rfl, rfl⟩

/-- Settles O54: R19 as the invariant holds it, and the period computed from the frequency. -/
theorem frequencyRegistersConsistent : Obligations.FrequencyRegistersConsistent := by
  intro s t i h hlife
  have i' := (stepsTo_of_step h).inv i
  have programmed : Programmed t := hlife.elim (fun hl => (i'.ready hl).2) (fun hl => (i'.closed hl).2)
  obtain ⟨p, hlow, hhigh, hfreq, hperiod⟩ := programmed
  refine ⟨p, hlow, hhigh, hfreq, hperiod, fun f u hf hu => ?_⟩
  rw [hfreq] at hf
  rw [hperiod] at hu
  obtain rfl := Option.some.inj hf
  obtain rfl := Option.some.inj hu
  rw [← freqOf_eq, ← periodUsOf_eq]
  rfl

/-! ### Parameters and trace -/

/-- `t` has the parameters, the host's inputs and the delivered responses of `s`, and its trace is that of `s` with events
added. -/
structure Grows (s t : State) : Prop where
  cfg : t.cfg = s.cfg
  hostIn : t.hostIn = s.hostIn
  responses : t.responses = s.responses
  trace : ∃ es, t.trace = s.trace ++ es

theorem Grows.refl (s : State) : Grows s s := ⟨rfl, rfl, rfl, [], (List.append_nil _).symm⟩

theorem Extends.grows {s t : State} (h : Extends s t) : Grows s t :=
  ⟨h.cfg, h.hostIn, h.responses, h.trace.imp fun _ he => he.1⟩

theorem Grows.trans {s t u : State} (h : Grows s t) (h' : Grows t u) : Grows s u := by
  obtain ⟨es, hes⟩ := h.trace
  obtain ⟨es', hes'⟩ := h'.trace
  refine ⟨h'.cfg.trans h.cfg, h'.hostIn.trans h.hostIn, h'.responses.trans h.responses, es ++ es', ?_⟩
  rw [hes', hes, List.append_assoc]

theorem seqSteps_grows (n : Nat) (s : State) : Grows s (seqSteps n s) := by
  induction n generalizing s with
  | zero => exact .refl s
  | succ n ih => exact (seqStep_extends s).grows.trans (ih (seqStep s))

/-- Beginning a command emits nothing. -/
theorem Begins.sameTrace {s t : State} {i : Instr} (h : Begins s i t) :
    t.cfg = s.cfg ∧ t.hostIn = s.hostIn ∧ t.responses = s.responses ∧ t.trace = s.trace := by
  cases h <;> exact ⟨rfl, rfl, rfl, rfl⟩

theorem beginCommand_grows (i : Instr) (s : State) : Grows s (beginCommand i s) := by
  obtain ⟨hcfg, hin, hresp, htrace⟩ := (beginCommand_begins i s).sameTrace
  exact ⟨hcfg, hin, hresp, [], by rw [htrace, List.append_nil]⟩

theorem StepsTo.keeps {s t : State} (h : StepsTo s t) : t.cfg = s.cfg ∧ ∃ es, t.trace = s.trace ++ es := by
  cases h with
  | reset | delivers | waits | illegal => exact ⟨rfl, [], (List.append_nil _).symm⟩
  | runs ins =>
    have grows := (seqStep_extends { s with hostIn := ins }).grows
    exact ⟨grows.cfg, grows.trace⟩
  | begins ins i =>
    have grows := beginCommand_grows i { s with hostIn := ins }
    exact ⟨grows.cfg, grows.trace⟩
  | executes ins i =>
    have grows := (beginCommand_grows i { s with hostIn := ins }).trans (seqSteps_grows maxSeqSteps _)
    exact ⟨grows.cfg, grows.trace⟩

/-- Settles O51: none of the things a step can do stops the machine or takes an event away. -/
theorem traceOnlyGrows : Obligations.TraceOnlyGrows := by
  intro s
  obtain ⟨t, ht, steps⟩ := exists_stepsTo s
  obtain ⟨-, es, hes⟩ := steps.keeps
  exact ⟨t, es, ht, hes⟩

/-- Settles O56: no step writes the parameters, and what legal parameters make of the mode bytes is O17. -/
theorem parametersStayLegal : Obligations.ParametersStayLegal := by
  intro s t i h
  have hcfg := (stepsTo_of_step h).keeps.1
  have hlegal : t.cfg.wf = true := hcfg ▸ i.legalParams
  refine ⟨hcfg, hlegal, fun b => ⟨clear_and_mask b _, set_and_mask b _, restartByte_keeps_sleep hlegal b⟩⟩

end Sys2Proof.Machine
end

section
/-! SUPPORT. A sequence of events that a command goes through while its calls succeed (`Trail`), and the two ends of it: all
calls succeed, or one fails and the command ends there with that call's error (60_exceptions.md R126). -/

namespace Sys2Proof.Machine

/-! ### What a run of sequencer steps reaches -/

/-- Some number of sequencer steps leads from `s` to `t`. -/
def Reaches (s t : State) : Prop := ∃ n, seqSteps n s = t

theorem Reaches.refl (s : State) : Reaches s s := ⟨0, rfl⟩

theorem Reaches.trans {s t u : State} (h : Reaches s t) (h' : Reaches t u) : Reaches s u := by
  obtain ⟨j, rfl⟩ := h
  obtain ⟨k, rfl⟩ := h'
  exact ⟨j + k, seqSteps_add j k s⟩

theorem Reaches.step {s t : State} (h : seqStep s = t) : Reaches s t := ⟨1, h⟩

/-- A run that reaches the end of the command within some number of steps is the whole command. -/
theorem Reaches.whole {s t : State} (h : Reaches s t) (hidle : t.phase = .IDLE) : seqSteps maxSeqSteps s = t := by
  obtain ⟨n, rfl⟩ := h
  obtain hn | hn := Nat.le_total n maxSeqSteps
  · exact seqSteps_of_ended hn hidle
  · exact (seqSteps_of_ended hn (seqSteps_max_IDLE s)).symm

/-- `t` is `s` but for the position, the transients, the oracle, the trace and the response. -/
structure Beside (s t : State) : Prop where
  cfg : t.cfg = s.cfg := by rfl
  life : t.life = s.life := by rfl
  busHandle : t.busHandle = s.busHandle := by rfl
  busNumber : t.busNumber = s.busNumber := by rfl
  devAddress : t.devAddress = s.devAddress := by rfl
  frequencyHz : t.frequencyHz = s.frequencyHz := by rfl
  pulseWidthUs : t.pulseWidthUs = s.pulseWidthUs := by rfl
  hostIn : t.hostIn = s.hostIn := by rfl
  responses : t.responses = s.responses := by rfl

theorem Beside.trans {s t u : State} (h : Beside s t) (h' : Beside t u) : Beside s u where
  cfg := h'.cfg.trans h.cfg
  life := h'.life.trans h.life
  busHandle := h'.busHandle.trans h.busHandle
  busNumber := h'.busNumber.trans h.busNumber
  devAddress := h'.devAddress.trans h.devAddress
  frequencyHz := h'.frequencyHz.trans h.frequencyHz
  pulseWidthUs := h'.pulseWidthUs.trans h.pulseWidthUs
  hostIn := h'.hostIn.trans h.hostIn
  responses := h'.responses.trans h.responses

/-- The end of a command depends on what came before only through the registers, the oracle and the trace. -/
theorem finish_congr {s t : State} (h : Beside s t) (horacle : t.oracle = s.oracle) (htrace : t.trace = s.trace)
    (r : Response) : finish t r = finish s r :=
  State.ext h.cfg h.life h.busHandle h.busNumber h.devAddress h.frequencyHz h.pulseWidthUs rfl rfl rfl rfl rfl rfl rfl rfl
    rfl rfl rfl h.hostIn horacle htrace h.responses

/-- A command of `s` ends in `life = l` with the response `r`, having made `n` calls and emitted `es`. -/
def endedAs (l : Life) (s : State) (n : Nat) (es : List Event) (r : Response) : State :=
  finish { s with life := l, oracle := s.oracle.skip n, trace := s.trace ++ es } r

/-- Where a command ends does not depend on how far it had gone. -/
theorem Beside.endedAs_eq {s t : State} (h : Beside s t) {j : Nat} {es : List Event} (horacle : t.oracle = s.oracle.skip j)
    (htrace : t.trace = s.trace ++ es) (l : Life) (n : Nat) (es' : List Event) (r : Response) :
    endedAs l t n es' r = endedAs l s (j + n) (es ++ es') r := by
  rw [endedAs, endedAs, horacle, htrace, Oracle.skip_skip, List.append_assoc]
  apply finish_congr
  · exact { h with life := rfl }
  · rfl
  · rfl

/-- A state with only its transients to clear ends as it is, the response pending. -/
theorem Quiet.finish_eq {s : State} (q : Quiet s) (r : Response) : finish s r = { s with rsp := some r } :=
  State.ext rfl rfl rfl rfl rfl rfl rfl q.phase.symm q.m.symm q.prescale.symm q.percent.symm q.steps.symm q.onStep.symm
    q.offStep.symm q.target.symm q.deferred.symm q.settleTimer.symm rfl rfl rfl rfl rfl

/-! ### One call -/

/-- At `s` a failed call ends the command with `life = l`. -/
def Raises (l : Life) (s : State) : Prop :=
  ∀ ev e, raise (s.draw.emit ev) e = finish { s.draw.emit ev with life := l } e

theorem raises_inInit {s : State} (h : s.phase.inInit = true) : Raises .FAILED s := fun ev e =>
  raise_inInit (s.draw.emit ev) e h

theorem raises_other {s : State} {l : Life} (hlife : s.life = l) (hinit : s.phase.inInit = false) (hX1 : s.phase ≠ .X1) :
    Raises l s := fun ev e => by
  rw [raise_other (s.draw.emit ev) e hinit hX1, ← hlife]
  rfl

/-- At `s` the sequencer makes the call of the event `e`: on success it goes on in `t`, with the registers as they are. -/
structure Calls (l : Life) (s : State) (e : Event) (t : State) : Prop where
  canFail : e.canFail = true
  ok : s.answer.ok = true → seqStep s = t
  fail : s.answer.ok = false → seqStep s = finish { s.draw.emit e.asFailed with life := l } e.error
  beside : Beside s t
  oracle : t.oracle = s.oracle.skip 1
  trace : t.trace = s.trace ++ [e]

section Calls
variable {l : Life} {s : State} {after : State → State}

theorem calls_of_writeStep {a : RegAddr} {v : Byte} (hraises : Raises l s) (hstep : seqStep s = writeStep s a v after)
    (hafter : ∀ u, Beside u (after u) ∧ (after u).oracle = u.oracle ∧ (after u).trace = u.trace) :
    Calls l s (.write s.busHandle a v true) (after (s.draw.emit (.write s.busHandle a v true))) where
  canFail := rfl
  ok h := hstep.trans (writeStep_ok s a v after h)
  fail h := (hstep.trans (writeStep_fail s a v after h)).trans (hraises _ _)
  beside := Beside.trans {} (hafter _).1
  oracle := (hafter _).2.1
  trace := (hafter _).2.2

theorem calls_of_readModeStep {next : Phase} {b : Byte} (hraises : Raises l s) (hstep : seqStep s = readModeStep s next)
    (hb : s.answer.byte = b) :
    Calls l s (.read s.busHandle s.cfg.regMode1 (some b))
      (goTo next { s.draw.emit (.read s.busHandle s.cfg.regMode1 (some b)) with m := some b }) where
  canFail := rfl
  ok h := hb ▸ hstep.trans (readModeStep_ok s next h)
  fail h := (hstep.trans (readModeStep_fail s next h)).trans (hraises _ _)
  beside := {}
  oracle := rfl
  trace := rfl

end Calls

/-! ### A sequence of events -/

/-- From `s` the sequencer emits these events, and is then in `t`, while its calls succeed; a call of them that fails ends the
command with `life = l`. -/
inductive Trail (l : Life) : State → List Event → State → Prop
  | nil s : Trail l s [] s
  | call {s s' t e es} (h : Calls l s e s') (rest : Trail l s' es t) : Trail l s (e :: es) t
  | pass {s s' t e es} (he : e.canFail = false) (h : Reaches s s') (beside : Beside s s') (oracle : s'.oracle = s.oracle)
      (trace : s'.trace = s.trace ++ [e]) (rest : Trail l s' es t) : Trail l s (e :: es) t

/-- The transport calls among some events. -/
def callCount (es : List Event) : Nat := (es.filter Event.canFail).length

theorem callCount_cons_call {e : Event} (h : e.canFail = true) (es : List Event) :
    callCount (e :: es) = callCount es + 1 := by
  rw [callCount, List.filter_cons_of_pos h]; rfl

theorem callCount_cons_pass {e : Event} (h : e.canFail = false) (es : List Event) : callCount (e :: es) = callCount es := by
  rw [callCount, List.filter_cons_of_neg (by simp [h])]; rfl

theorem cutAt_cons_pass {e : Event} (h : e.canFail = false) (es : List Event) (k : Nat) :
    cutAt (e :: es) k = e :: cutAt es k := by
  simp [cutAt, h]

theorem cutAt_cons_zero {e : Event} (h : e.canFail = true) (es : List Event) : cutAt (e :: es) 0 = [e.asFailed] := by
  simp [cutAt, h]

theorem cutAt_cons_succ {e : Event} (h : e.canFail = true) (es : List Event) (k : Nat) :
    cutAt (e :: es) (k + 1) = e :: cutAt es k := by
  simp [cutAt, h]

theorem errorAt_cons_pass {e : Event} (h : e.canFail = false) (es : List Event) (k : Nat) :
    errorAt (e :: es) k = errorAt es k := by
  simp [errorAt, h]

theorem errorAt_cons_zero {e : Event} (h : e.canFail = true) (es : List Event) : errorAt (e :: es) 0 = e.error := by
  simp [errorAt, h]

theorem errorAt_cons_succ {e : Event} (h : e.canFail = true) (es : List Event) (k : Nat) :
    errorAt (e :: es) (k + 1) = errorAt es k := by
  simp [errorAt, h]

/-! ### The answers along a sequence -/

theorem AnswersOk.mono {s : State} {n m : Nat} (h : AnswersOk s n) (hm : m ≤ n) : AnswersOk s m := fun k hk => h k (by omega)

theorem AnswersOk.after {s t : State} {j n : Nat} (h : AnswersOk s (j + n)) (ht : t.oracle = s.oracle.skip j) :
    AnswersOk t n := fun k hk => by
  rw [ht, Oracle.peek_skip]
  exact h (j + k) (by omega)

theorem FailsAt.after {s t : State} {j k : Nat} (h : FailsAt s (j + k)) (ht : t.oracle = s.oracle.skip j) : FailsAt t k := by
  refine ⟨h.1.after ht, ?_⟩
  rw [ht, Oracle.peek_skip]
  exact h.2

namespace Trail

variable {l : Life} {s t u : State} {es es' : List Event}

theorem append (h : Trail l s es t) (h' : Trail l t es' u) : Trail l s (es ++ es') u := by
  induction h with
  | nil => exact h'
  | call hc _ ih => exact .call hc (ih h')
  | pass he hr hb ho ht _ ih => exact .pass he hr hb ho ht (ih h')

theorem beside (h : Trail l s es t) : Beside s t := by
  induction h with
  | nil => exact {}
  | call hc _ ih => exact hc.beside.trans ih
  | pass _ _ hb _ _ _ ih => exact hb.trans ih

theorem oracle (h : Trail l s es t) : t.oracle = s.oracle.skip (callCount es) := by
  induction h with
  | nil => exact (Oracle.skip_zero _).symm
  | call hc _ ih => rw [ih, hc.oracle, Oracle.skip_skip, callCount_cons_call hc.canFail, Nat.add_comm]
  | pass he _ _ ho _ _ ih => rw [ih, ho, callCount_cons_pass he]

theorem trace (h : Trail l s es t) : t.trace = s.trace ++ es := by
  induction h with
  | nil => exact (List.append_nil _).symm
  | call hc _ ih => rw [ih, hc.trace, List.append_assoc]; rfl
  | pass _ _ _ _ ht _ ih => rw [ih, ht, List.append_assoc]; rfl

/-- The sequence with every call a success. -/
theorem reaches (h : Trail l s es t) (hok : AnswersOk s (callCount es)) : Reaches s t := by
  induction h with
  | nil => exact .refl _
  | call hc _ ih =>
    rw [callCount_cons_call hc.canFail, Nat.add_comm] at hok
    exact (Reaches.step (hc.ok (hok 0 (by omega)))).trans (ih (hok.after hc.oracle))
  | pass he hr _ ho _ _ ih =>
    rw [callCount_cons_pass he, ← Nat.zero_add (callCount _)] at hok
    exact hr.trans (ih (hok.after (ho.trans (Oracle.skip_zero _).symm)))

/-- The sequence whose call number `k` fails: it is cut there, and the command has ended. -/
theorem reaches_endedAs (h : Trail l s es t) {k : Nat} (hk : k < callCount es) (hf : FailsAt s k) :
    Reaches s (endedAs l s (k + 1) (cutAt es k) (errorAt es k)) := by
  induction h generalizing k with
  | nil => exact absurd hk (Nat.not_lt_zero k)
  | call hc _ ih =>
    cases k with
    | zero =>
      rw [cutAt_cons_zero hc.canFail, errorAt_cons_zero hc.canFail]
      exact .step (hc.fail hf.2)
    | succ k =>
      rw [callCount_cons_call hc.canFail, Nat.add_lt_add_iff_right] at hk
      rw [Nat.add_comm] at hf
      have rest := ih hk (hf.after hc.oracle)
      rw [hc.beside.endedAs_eq hc.oracle hc.trace, Nat.add_comm 1] at rest
      rw [cutAt_cons_succ hc.canFail, errorAt_cons_succ hc.canFail]
      exact (Reaches.step (hc.ok (hf.1 0 (by omega)))).trans rest
  | @pass s _ _ _ _ he hr hb ho ht _ ih =>
    have horacle := ho.trans (Oracle.skip_zero _).symm
    rw [callCount_cons_pass he] at hk
    rw [← Nat.zero_add k] at hf
    have rest := ih hk (hf.after horacle)
    rw [hb.endedAs_eq horacle ht, Nat.zero_add] at rest
    rw [cutAt_cons_pass he, errorAt_cons_pass he]
    exact hr.trans rest

end Trail

end Sys2Proof.Machine
end

section
/-! SUPPORT. SETFREQ, SETDUTY, SETPW and CLOSE in READY (42_frequency.md R86, R87; 43_duty_cycle.md R102, R103;
44_pulse_width.md R110; 45_shutdown.md R114, R116): the exact state each ends in, for every answer of the transport. -/

namespace Sys2Proof.Machine

/-- A command of a quiet state ends with the state as it was but for what `endedAs` names. -/
theorem Quiet.endedAs_eq {s : State} (q : Quiet s) (l : Life) (n : Nat) (es : List Event) (r : Response) :
    endedAs l s n es r =
      { s with life := l, oracle := s.oracle.skip n, trace := s.trace ++ es, rsp := some r } :=
  Quiet.finish_eq (s := { s with life := l, oracle := s.oracle.skip n, trace := s.trace ++ es }) { q with } r

/-- A command whose sequence reaches its end. -/
theorem exec_eq_of_reaches {s t : State} {i : Instr} (q : Quiet s) (h : Reaches (beginCommand i s) t)
    (hidle : t.phase = .IDLE) : exec i s = .next t := by
  rw [exec_eq_runCommand, runCommand_accepts _ q.accepts, h.whole hidle]

/-! ### The sequence of SETFREQ, a host's or INIT's -/

/-- A continuation that touches neither the registers nor the oracle nor the trace. -/
def Keeps (f : State → State) : Prop := ∀ s, Beside s (f s) ∧ (f s).oracle = s.oracle ∧ (f s).trace = s.trace

theorem keeps_goTo (p : Phase) : Keeps (goTo p) := fun _ => ⟨{}, rfl, rfl⟩

theorem Trail.delay {l : Life} {s t : State} {es : List Event} {after : State → State}
    (hstep : ∀ u, u.phase = s.phase → seqStep u = delayStep u after) (htimer : s.settleTimer = none)
    (hafter : Keeps after) (rest : Trail l (after { s.emit (.delay 500) with settleTimer := none }) es t) :
    Trail l s (.delay 500 :: es) t := by
  obtain ⟨beside, oracle, trace⟩ := hafter { s.emit (.delay 500) with settleTimer := none }
  refine .pass rfl ⟨2, ?_⟩ (Beside.trans {} beside) oracle trace rest
  rw [seqSteps_succ, seqSteps_succ, seqSteps_zero, hstep s rfl, delayStep_start s after htimer]
  refine (hstep _ ?_).trans ?_
  · rfl
  · rw [delayStep_end _ after Config.settleUs rfl]
    rfl

/-- Where SETFREQ's steps run: the positions, what follows step F7, and what a failed call leaves in `life`. -/
structure FreqRun (l : Life) (wrap : FreqStep → Phase) (done : State → State) (s : State) : Prop where
  step : ∀ (f : FreqStep) (u : State), u.phase = wrap f → seqStep u = freqStep wrap done f u
  raises : ∀ (f : FreqStep) (u : State), u.phase = wrap f → u.life = s.life → Raises l u
  timer : s.settleTimer = none

theorem freqRun_F {s : State} (q : Quiet s) (hlife : s.life = .READY) : FreqRun .READY .F (finish · .ok) s where
  step f _ h := seqStep_F f h
  raises f u h hl := raises_other (hl.trans hlife) (by rw [h]; rfl) (by rw [h]; nofun)
  timer := q.settleTimer

theorem freqRun_I7 {s : State} (htimer : s.settleTimer = none) : FreqRun .FAILED .I7 enterI8 s where
  step f _ h := seqStep_I7 f h
  raises f u h _ := raises_inInit (by rw [h]; rfl)
  timer := htimer

/-- `u` is at a step of SETFREQ behind its read: its prescale is `p`, its byte read is `b`, and the registers are those of
`s`. -/
structure FreqAt (wrap : FreqStep → Phase) (s : State) (p : Int) (b : Byte) (f : FreqStep) (u : State) : Prop where
  phase : u.phase = wrap f := by rfl
  m : u.m = some b
  prescale : u.prescale = some p
  timer : u.settleTimer = none
  beside : Beside s u

namespace FreqAt

variable {l : Life} {wrap : FreqStep → Phase} {done : State → State} {s u : State} {p : Int} {b : Byte} {f : FreqStep}

theorem readM (h : FreqAt wrap s p b f u) : u.readM = b := by rw [State.readM, h.m]; rfl

theorem readPrescale (h : FreqAt wrap s p b f u) : u.readPrescale = p := by rw [State.readPrescale, h.prescale]; rfl

/-- A step that writes a byte goes on to the next. -/
theorem write (h : FreqAt wrap s p b f u) (w : FreqRun l wrap done s) {a : RegAddr} {v : Byte} {g : FreqStep}
    (hstep : freqStep wrap done f u = writeStep u a v (goTo (wrap g))) :
    ∃ u', Calls l u (.write s.busHandle a v true) u' ∧ FreqAt wrap s p b g u' := by
  have calls := calls_of_writeStep (w.raises f u h.phase h.beside.life) ((w.step f u h.phase).trans hstep) (keeps_goTo _)
  rw [h.beside.busHandle] at calls
  exact ⟨_, calls, { m := h.m, prescale := h.prescale, timer := h.timer, beside := h.beside.trans calls.beside }⟩

end FreqAt

/-- SETFREQ's six events lead from its entry to its step F7. -/
theorem trail_freqEvents {l : Life} {wrap : FreqStep → Phase} {done : State → State} {s : State}
    (w : FreqRun l wrap done s) (hz : Rat) :
    ∃ t, Trail l (enterFreq wrap hz s) (freqEvents s.cfg s.busHandle (s.oracle.peek 0).byte (prescaleOf hz)) t ∧
      FreqAt wrap s (prescaleOf hz) (s.oracle.peek 0).byte .F7 t := by
  have read := calls_of_readModeStep (w.raises .F1 (enterFreq wrap hz s) rfl rfl) (w.step .F1 _ rfl) rfl
  have h2 : FreqAt wrap s (prescaleOf hz) (s.oracle.peek 0).byte .F2 (goTo (wrap .F2) { (enterFreq wrap hz s).draw.emit
      (.read s.busHandle s.cfg.regMode1 (some (s.oracle.peek 0).byte)) with m := some (s.oracle.peek 0).byte }) :=
    { m := rfl, prescale := rfl, timer := w.timer, beside := {} }
  obtain ⟨u3, calls2, h3⟩ := h2.write w (a := s.cfg.regMode1) (v := (s.oracle.peek 0).byte ||| s.cfg.m1Sleep) (g := .F3)
    (by rw [freqStep, h2.readM, h2.beside.cfg, sleepByte])
  obtain ⟨u4, calls3, h4⟩ := h3.write w (a := s.cfg.regPrescale) (v := BitVec.ofInt 8 (prescaleOf hz)) (g := .F4)
    (by rw [freqStep, h3.readPrescale, h3.beside.cfg, prescaleByte])
  obtain ⟨u5, calls4, h5⟩ := h4.write w (a := s.cfg.regMode1) (v := (s.oracle.peek 0).byte) (g := .F5)
    (by rw [freqStep, h4.readM, h4.beside.cfg])
  have h6 : FreqAt wrap s (prescaleOf hz) (s.oracle.peek 0).byte .F6
      (goTo (wrap .F6) { u5.emit (.delay 500) with settleTimer := none }) :=
    { m := h5.m, prescale := h5.prescale, timer := rfl, beside := h5.beside.trans {} }
  obtain ⟨u7, calls6, h7⟩ := h6.write w (a := s.cfg.regMode1) (v := (s.oracle.peek 0).byte ||| s.cfg.m1Restart) (g := .F7)
    (by rw [freqStep, h6.readM, h6.beside.cfg, restartByte])
  refine ⟨u7, .call read <| .call calls2 <| .call calls3 <| .call calls4 <| .delay (fun u hu => ?_) h5.timer
    (keeps_goTo _) <| .call calls6 <| .nil _, h7⟩
  exact w.step .F5 u (hu.trans h5.phase)

/-- Step F7 with the prescale of `hz`: the frequency registers, and what follows. -/
theorem seqStep_F7 {l : Life} {wrap : FreqStep → Phase} {done : State → State} {s t : State}
    (w : FreqRun l wrap done s) {p : Int} {b : Byte} (h : FreqAt wrap s p b .F7 t) :
    seqStep t = done ({ t with frequencyHz := some (freqOf p), pulseWidthUs := some (periodUsOf p) } : State).clearFreq := by
  rw [w.step .F7 t h.phase, freqStep, h.readPrescale]

/-! ### SETFREQ -/

/-- The state with the frequency registers of the prescale `p` (42_frequency.md R85, R86). -/
def retuned (s : State) (p : Int) : State :=
  { s with frequencyHz := some (freqOf p), pulseWidthUs := some (periodUsOf p) }

section Setfreq
variable {s : State} {hz : Rat} (q : Quiet s) (hlife : s.life = .READY)
include q hlife

theorem reaches_setfreq_ok (hok : AnswersOk s 5) :
    Reaches (enterFreq .F hz s) (endedAs .READY (retuned s (prescaleOf hz)) 5
      (freqEvents s.cfg s.busHandle (s.oracle.peek 0).byte (prescaleOf hz)) .ok) := by
  have w := freqRun_F q hlife
  obtain ⟨t, trail, atF7⟩ := trail_freqEvents w hz
  refine (trail.reaches hok).trans (.step ((seqStep_F7 w atF7).trans ?_))
  apply finish_congr
  · exact { trail.beside with life := trail.beside.life.trans hlife, frequencyHz := rfl, pulseWidthUs := rfl }
  · exact trail.oracle
  · exact trail.trace

theorem reaches_setfreq_fails {k : Nat} (hk : k < 5) (hf : FailsAt s k) :
    Reaches (enterFreq .F hz s) (endedAs .READY s (k + 1)
      (cutAt (freqEvents s.cfg s.busHandle (s.oracle.peek 0).byte (prescaleOf hz)) k)
      (errorAt (freqEvents s.cfg s.busHandle (s.oracle.peek 0).byte (prescaleOf hz)) k)) := by
  obtain ⟨t, trail, -⟩ := trail_freqEvents (freqRun_F q hlife) hz
  exact trail.reaches_endedAs hk hf

end Setfreq

/-! ### SETDUTY and SETPW -/

/-- Step D1 right after SETDUTY's entry, the block write answered `ok`. -/
theorem dutyStep_enterDuty_ok {s : State} (p : Phase) (a : RegAddr) (x : Rat) (done : State → State)
    (h : (s.oracle.peek 0).ok = true) :
    dutyStep done (enterDuty p a x s) =
      done ((enterDuty p a x s).draw.emit (.block s.busHandle a (dutyBlock x) true)).clearDuty :=
  dutyStep_ok _ _ h

/-- What a block write is answered with (43_duty_cycle.md R102, R103). -/
def blockAnswer (a : RegAddr) (ok : Bool) : Response := if ok then .ok else .registerIOError a .blockwrite

theorem reaches_duty {s : State} (hlife : s.life = .READY) (a : RegAddr) (x : Rat) :
    Reaches (enterDuty .D1 a x s) (endedAs .READY s 1 [.block s.busHandle a (dutyBlock x) (s.oracle.peek 0).ok]
      (blockAnswer a (s.oracle.peek 0).ok)) := by
  refine .step ((seqStep_D1 rfl).trans ?_)
  cases hok : (s.oracle.peek 0).ok with
  | true =>
    rw [dutyStep_enterDuty_ok _ _ _ _ hok]
    apply finish_congr
    · exact { life := hlife }
    · rfl
    · rfl
  | false =>
    rw [dutyStep_enterDuty_fail _ _ _ _ hok, raise_other _ _ rfl (by simp)]
    apply finish_congr
    · exact { life := hlife }
    · rfl
    · rfl

/-! ### CLOSE -/

/-- Step X2, whatever step X1 left to be answered (45_shutdown.md R114, R116). -/
theorem seqStep_X2_ends {s u : State} {e : Event} {r : Response} (hphase : u.phase = .X2) (h : Beside s u)
    (horacle : u.oracle = s.oracle.skip 1) (htrace : u.trace = s.trace ++ [e]) (hr : u.deferred.getD .ok = r) :
    seqStep u = endedAs .CLOSED { s with busHandle := none } 1 [e, .busClose s.busHandle] r := by
  rw [seqStep_X2 hphase, closeStep, hr]
  apply finish_congr
  · exact { h with life := rfl, busHandle := rfl }
  · exact horacle
  · show u.trace ++ [.busClose u.busHandle] = s.trace ++ [e, .busClose s.busHandle]
    rw [htrace, h.busHandle, List.append_assoc]
    rfl

theorem beside_blockWritten (s : State) (p q : Phase) (a : RegAddr) (x : Rat) (e : Event) :
    Beside s (goTo q ((enterDuty p a x s).draw.emit e).clearDuty) := by
  constructor <;> simp

theorem beside_closeX1Failed (s : State) : Beside s (closeX1Failed s) := by
  constructor <;> simp [closeX1Failed]

theorem reaches_close {s : State} (hdeferred : s.deferred = none) :
    Reaches (enterDuty .X1 s.cfg.regAllBase 0 s) (endedAs .CLOSED { s with busHandle := none } 1
      [.block s.busHandle s.cfg.regAllBase ⟨0, 0, 0, 0⟩ (s.oracle.peek 0).ok, .busClose s.busHandle]
      (blockAnswer s.cfg.regAllBase (s.oracle.peek 0).ok)) := by
  cases hok : (s.oracle.peek 0).ok with
  | true =>
    refine (Reaches.step (seqStep_X1 (enterDuty_phase ..))).trans (.step ?_)
    rw [dutyStep_enterDuty_ok _ _ _ _ hok, dutyBlock_zero]
    exact seqStep_X2_ends rfl (beside_blockWritten ..) rfl rfl (by simp [hdeferred, blockAnswer])
  | false =>
    refine (Reaches.step (seqStep_X1_fail hok)).trans (.step ?_)
    exact seqStep_X2_ends rfl (beside_closeX1Failed s) rfl rfl rfl

end Sys2Proof.Machine
end

section
/-! SUPPORT. INIT in UNOPENED (41_initialization.md R76, R78, R79): step I1, the steps up to the end of the nested SETFREQ as
one trail, and step I8. -/

namespace Sys2Proof.Machine

/-- INIT's events from step I2 to step I6, `r` the byte read (41_initialization.md R79). -/
def wakeEvents (c : Params) (via : Option Handle) (r : Byte) : List Event :=
  [ .write via c.regMode1 (c.m1Ai ||| c.m1AllCall) true,
    .write via c.regMode2 (c.m2Och ||| c.m2OutDrv) true,
    .delay 500,
    .read via c.regMode1 (some r),
    .write via c.regMode1 (r &&& ~~~c.m1Sleep) true,
    .delay 500 ]

/-- R79's list by the steps that emit it. -/
theorem initEvents_eq (c : Params) (bus : BusNumber) (address : DevAddress) (h : Handle) (r m : Byte) :
    initEvents c bus address h r m = .busOpen bus address (some h) ::
      (wakeEvents c (some h) r ++ freqEvents c (some h) m 121 ++ [.block (some h) c.regAllBase ⟨0, 0, 0, 0⟩ true]) := rfl

theorem prescaleOf_defaultHz : prescaleOf Config.defaultHz = 121 := by
  have raw : prescaleRaw Config.defaultHz = 121 := by
    rw [Config.defaultHz]
    exact (prescaleRaw_eq_iff (by norm_num) (by decide)).mpr (by norm_num)
  exact (prescaleOf_of_raw_eq raw (by decide) (by decide)).1

theorem keeps_enterFreq (wrap : FreqStep → Phase) (hz : Rat) : Keeps (enterFreq wrap hz) := fun _ => ⟨{}, rfl, rfl⟩

theorem keeps_goTo_clearFreq (p : Phase) : Keeps (fun s => goTo p s.clearFreq) := fun _ => ⟨{}, rfl, rfl⟩

/-- `u` is at step `p` of INIT, no delay running, after `n` calls from `s`, whose registers it has. -/
structure InitAt (s : State) (p : Phase) (n : Nat) (u : State) : Prop where
  phase : u.phase = p
  timer : u.settleTimer = none
  beside : Beside s u
  oracle : u.oracle = s.oracle.skip n

namespace InitAt

variable {s u : State} {p : Phase} {n : Nat}

theorem raises (h : InitAt s p n u) (hinit : p.inInit = true) : Raises .FAILED u := raises_inInit (h.phase ▸ hinit)

/-- A step of INIT that writes a byte goes on to the next. -/
theorem write (h : InitAt s p n u) {a : RegAddr} {v : Byte} {q : Phase} {after : State → State}
    (hstep : seqStep u = writeStep u a v after) (hkeeps : Keeps after)
    (hafter : ∀ x, (after x).phase = q ∧ (after x).settleTimer = x.settleTimer) (hinit : p.inInit = true := by rfl) :
    ∃ u', Calls .FAILED u (.write s.busHandle a v true) u' ∧ InitAt s q (n + 1) u' := by
  have calls := calls_of_writeStep (h.raises hinit) hstep hkeeps
  rw [h.beside.busHandle] at calls
  exact ⟨_, calls, (hafter _).1, (hafter _).2.trans h.timer, h.beside.trans calls.beside,
    by rw [calls.oracle, h.oracle, Oracle.skip_skip]⟩

/-- A step of INIT that reads the mode register goes on to the next with the byte in `m`. -/
theorem read (h : InitAt s p n u) {q : Phase} (hstep : seqStep u = readModeStep u q) (hinit : p.inInit = true := by rfl) :
    ∃ u', Calls .FAILED u (.read s.busHandle s.cfg.regMode1 (some (s.oracle.peek n).byte)) u' ∧ InitAt s q (n + 1) u' ∧
      u'.readM = (s.oracle.peek n).byte := by
  have calls := calls_of_readModeStep (b := (s.oracle.peek n).byte) (h.raises hinit) hstep
    (by rw [answer_eq, h.oracle, Oracle.peek_skip, Nat.add_zero])
  rw [h.beside.busHandle, h.beside.cfg] at calls
  exact ⟨_, calls, ⟨rfl, h.timer, h.beside.trans calls.beside, by rw [calls.oracle, h.oracle, Oracle.skip_skip]⟩, rfl⟩

/-- Where a settle delay has ended. -/
theorem pause (h : InitAt s p n u) {q : Phase} :
    InitAt s q n (goTo q { u.emit (.delay 500) with settleTimer := none }) :=
  ⟨rfl, rfl, h.beside.trans {}, h.oracle⟩

end InitAt

/-- From step I2 to the entry of the nested SETFREQ. -/
theorem trail_wakeEvents {s : State} (hphase : s.phase = .I2) (htimer : s.settleTimer = none) :
    ∃ u, Trail .FAILED s (wakeEvents s.cfg s.busHandle (s.oracle.peek 2).byte) (enterFreq .I7 Config.defaultHz u) ∧
      u.settleTimer = none := by
  have h2 : InitAt s .I2 0 s := ⟨hphase, htimer, {}, (Oracle.skip_zero _).symm⟩
  obtain ⟨u3, calls2, h3⟩ := h2.write (seqStep_I2 hphase) (keeps_goTo .I3) fun _ => ⟨rfl, rfl⟩
  obtain ⟨u4, calls3, h4⟩ := h3.write (seqStep_I3 h3.phase) (keeps_goTo .I4) fun _ => ⟨rfl, rfl⟩
  have h5 := h4.pause (q := .I5read)
  obtain ⟨u6, calls5, h6, hm⟩ := h5.read (seqStep_I5read h5.phase)
  obtain ⟨u7, calls6, h7⟩ := h6.write (seqStep_I5write h6.phase) (keeps_goTo_clearFreq .I6) fun _ => ⟨rfl, rfl⟩
  rw [h3.beside.cfg] at calls3
  rw [h6.beside.cfg, hm] at calls6
  refine ⟨_, .call calls2 <| .call calls3 <| .delay (fun u hu => seqStep_I4 (hu.trans h4.phase)) h4.timer (keeps_goTo _) <|
    .call calls5 <| .call calls6 <| .delay (fun u hu => seqStep_I6 (hu.trans h7.phase)) h7.timer (keeps_enterFreq _ _) <|
    .nil _, rfl⟩

/-- INIT's events behind step I1 and before step I8. -/
def middleEvents (c : Params) (via : Option Handle) (r m : Byte) : List Event :=
  wakeEvents c via r ++ freqEvents c via m 121

theorem callCount_middleEvents (c : Params) (via : Option Handle) (r m : Byte) : callCount (middleEvents c via r m) = 9 := rfl

/-- From step I2 to step F7 of the nested SETFREQ. -/
theorem trail_middleEvents {s : State} (hphase : s.phase = .I2) (htimer : s.settleTimer = none) :
    ∃ u t b, Trail .FAILED s (middleEvents s.cfg s.busHandle (s.oracle.peek 2).byte (s.oracle.peek 4).byte) t ∧
      FreqRun .FAILED .I7 enterI8 u ∧ FreqAt .I7 u 121 b .F7 t := by
  obtain ⟨u, wake, hu⟩ := trail_wakeEvents hphase htimer
  obtain ⟨t, freq, atF7⟩ := trail_freqEvents (freqRun_I7 hu) Config.defaultHz
  have hcfg : u.cfg = s.cfg := wake.beside.cfg
  have hhandle : u.busHandle = s.busHandle := wake.beside.busHandle
  have horacle : u.oracle = s.oracle.skip 4 := wake.oracle
  rw [prescaleOf_defaultHz, hcfg, hhandle, horacle, Oracle.peek_skip] at freq
  rw [prescaleOf_defaultHz] at atF7
  exact ⟨u, t, _, wake.append freq, freqRun_I7 hu, atF7⟩

/-- INIT's entry: the operands are latched (41_initialization.md R75). -/
def latched (s : State) (bus : BusNumber) (address : DevAddress) : State :=
  { s with busNumber := some bus, devAddress := some address }

/-- The registers step I1 leaves: the handle beside the operands. -/
def opened (s : State) (bus : BusNumber) (address : DevAddress) : State :=
  { latched s bus address with busHandle := some (s.oracle.peek 0).handle }

/-- The registers step I7 leaves: those of prescale 121 beside them. -/
def tuned (s : State) (bus : BusNumber) (address : DevAddress) : State :=
  retuned (opened s bus address) 121

/-- The state after step I1, its call answered `ok`. -/
def afterOpen (s : State) (bus : BusNumber) (address : DevAddress) : State :=
  goTo .I2 ((opened s bus address).draw.emit (.busOpen bus address (some (s.oracle.peek 0).handle)))

theorem cutAt_append_of_lt {es : List Event} {k : Nat} (hk : k < callCount es) (es' : List Event) :
    cutAt (es ++ es') k = cutAt es k := by
  induction es generalizing k with
  | nil => exact absurd hk (Nat.not_lt_zero k)
  | cons e es ih =>
    rw [List.cons_append]
    cases he : e.canFail with
    | false =>
      rw [callCount_cons_pass he] at hk
      rw [cutAt_cons_pass he, cutAt_cons_pass he, ih hk]
    | true =>
      cases k with
      | zero => rw [cutAt_cons_zero he, cutAt_cons_zero he]
      | succ k =>
        rw [callCount_cons_call he, Nat.add_lt_add_iff_right] at hk
        rw [cutAt_cons_succ he, cutAt_cons_succ he, ih hk]

theorem cutAt_append_add (es es' : List Event) (k : Nat) : cutAt (es ++ es') (callCount es + k) = es ++ cutAt es' k := by
  induction es with
  | nil => exact congrArg _ (Nat.zero_add k)
  | cons e es ih =>
    rw [List.cons_append]
    cases he : e.canFail with
    | false => rw [callCount_cons_pass he, cutAt_cons_pass he, ih, List.cons_append]
    | true => rw [callCount_cons_call he, Nat.add_right_comm, cutAt_cons_succ he, ih, List.cons_append]

theorem errorAt_append_of_lt {es : List Event} {k : Nat} (hk : k < callCount es) (es' : List Event) :
    errorAt (es ++ es') k = errorAt es k := by
  rw [errorAt, errorAt, List.filter_append, List.getElem?_append_left hk]

theorem errorAt_append_add (es es' : List Event) (k : Nat) : errorAt (es ++ es') (callCount es + k) = errorAt es' k := by
  rw [errorAt, errorAt, List.filter_append, callCount, List.getElem?_append_right (Nat.le_add_right _ _),
    Nat.add_sub_cancel_left]

section Init
variable {s : State} (bus : BusNumber) (address : DevAddress)

theorem seqStep_I1_ok (hok : (s.oracle.peek 0).ok = true) :
    seqStep (goTo .I1 (latched s bus address)) = afterOpen s bus address :=
  (seqStep_I1 rfl).trans (openStep_ok _ hok)

theorem reaches_init_openFails (hfail : (s.oracle.peek 0).ok = false) :
    Reaches (goTo .I1 (latched s bus address))
      (endedAs .FAILED (latched s bus address) 1 [.busOpen bus address none] .busOpenError) := by
  refine .step (((seqStep_I1 rfl).trans (openStep_fail (goTo .I1 (latched s bus address)) hfail)).trans ?_)
  exact raise_inInit ((goTo .I1 (latched s bus address)).draw.emit (.busOpen bus address none)) _ rfl

/-- INIT's events up to step I7. -/
def eventsToI7 (s : State) (bus : BusNumber) (address : DevAddress) : List Event :=
  .busOpen bus address (some (s.oracle.peek 0).handle) ::
    middleEvents s.cfg (some (s.oracle.peek 0).handle) (s.oracle.peek 3).byte (s.oracle.peek 5).byte

/-- INIT's fourteen events in `s` (41_initialization.md R79). -/
def initEventsOf (s : State) (bus : BusNumber) (address : DevAddress) : List Event :=
  initEvents s.cfg bus address (s.oracle.peek 0).handle (s.oracle.peek 3).byte (s.oracle.peek 5).byte

theorem initEventsOf_eq :
    initEventsOf s bus address = eventsToI7 s bus address ++
      [.block (some (s.oracle.peek 0).handle) s.cfg.regAllBase ⟨0, 0, 0, 0⟩ true] := rfl

/-- The middle part of INIT, its bytes read named from INIT's start. -/
theorem trail_of_afterOpen (htimer : s.settleTimer = none) :
    ∃ u t b, Trail .FAILED (afterOpen s bus address)
        (middleEvents s.cfg (some (s.oracle.peek 0).handle) (s.oracle.peek 3).byte (s.oracle.peek 5).byte) t ∧
      FreqRun .FAILED .I7 enterI8 u ∧ FreqAt .I7 u 121 b .F7 t := by
  have middle := trail_middleEvents (s := afterOpen s bus address) rfl htimer
  have horacle : (afterOpen s bus address).oracle = s.oracle.skip 1 := rfl
  rwa [horacle, Oracle.peek_skip, Oracle.peek_skip] at middle

/-- Step F7 of the nested SETFREQ goes on to step I8, the frequency stored. -/
theorem reaches_I8 (htimer : s.settleTimer = none) (hok : AnswersOk s 10) :
    ∃ u, Reaches (goTo .I1 (latched s bus address)) (enterDuty .I8 s.cfg.regAllBase 0 u) ∧ Beside (tuned s bus address) u ∧
      u.oracle = s.oracle.skip 10 ∧ u.trace = s.trace ++ eventsToI7 s bus address := by
  obtain ⟨v, t, b, trail, w, atF7⟩ := trail_of_afterOpen bus address htimer
  have middle := trail.reaches (AnswersOk.after (j := 1) hok rfl)
  have toI8 := seqStep_F7 w atF7
  have hcfg : t.cfg = s.cfg := trail.beside.cfg
  refine ⟨({ t with frequencyHz := some (freqOf 121), pulseWidthUs := some (periodUsOf 121) } : State).clearFreq,
    (Reaches.step (seqStep_I1_ok bus address (hok 0 (by decide)))).trans (middle.trans (.step (toI8.trans ?_))),
    { trail.beside with frequencyHz := rfl, pulseWidthUs := rfl }, ?_, ?_⟩
  · rw [enterI8, ← hcfg]
    rfl
  · exact trail.oracle.trans (Oracle.skip_skip _ _ _)
  · exact trail.trace.trans (List.append_assoc _ _ _)

/-- Step I8 right after its entry: INIT ends READY, or FAILED by its last call. -/
theorem seqStep_I8_ends (u : State) (a : RegAddr) :
    seqStep (enterDuty .I8 a 0 u) = endedAs (if (u.oracle.peek 0).ok then .READY else .FAILED) u 1
      [.block u.busHandle a ⟨0, 0, 0, 0⟩ (u.oracle.peek 0).ok] (blockAnswer a (u.oracle.peek 0).ok) := by
  rw [seqStep_I8 (enterDuty_phase ..)]
  cases hok : (u.oracle.peek 0).ok with
  | true => rw [dutyStep_enterDuty_ok _ _ _ _ hok, dutyBlock_zero]; rfl
  | false => rw [dutyStep_enterDuty_fail _ _ _ _ hok, dutyBlock_zero, raise_inInit _ _ rfl]; rfl

/-- INIT whose first ten calls succeed ends with step I8. -/
theorem reaches_init_end (htimer : s.settleTimer = none) (hok : AnswersOk s 10) :
    Reaches (goTo .I1 (latched s bus address)) (endedAs (if (s.oracle.peek 10).ok then .READY else .FAILED)
      (tuned s bus address) 11 (eventsToI7 s bus address ++
        [.block (some (s.oracle.peek 0).handle) s.cfg.regAllBase ⟨0, 0, 0, 0⟩ (s.oracle.peek 10).ok])
      (blockAnswer s.cfg.regAllBase (s.oracle.peek 10).ok)) := by
  obtain ⟨u, reaches, beside, horacle, htrace⟩ := reaches_I8 bus address htimer hok
  have hhandle : u.busHandle = some (s.oracle.peek 0).handle := beside.busHandle
  have ends := seqStep_I8_ends u s.cfg.regAllBase
  rw [beside.endedAs_eq horacle htrace, horacle, Oracle.peek_skip, hhandle] at ends
  exact reaches.trans (.step ends)

theorem reaches_init_ok (htimer : s.settleTimer = none) (hok : AnswersOk s 11) :
    Reaches (goTo .I1 (latched s bus address))
      (endedAs .READY (tuned s bus address) 11 (initEventsOf s bus address) .ok) := by
  have ends := reaches_init_end bus address htimer (hok.mono (by decide))
  rwa [hok 10 (by decide)] at ends

/-- The registers that INIT leaves when its call number `k` fails (60_exceptions.md R119). -/
def initFailed (s : State) (bus : BusNumber) (address : DevAddress) (k : Nat) : State :=
  if k = 0 then latched s bus address else if k = 10 then tuned s bus address else opened s bus address

theorem reaches_init_fails (htimer : s.settleTimer = none) {k : Nat} (hk : k < 11) (hf : FailsAt s k) :
    Reaches (goTo .I1 (latched s bus address)) (endedAs .FAILED (initFailed s bus address k) (k + 1)
      (cutAt (initEventsOf s bus address) k) (errorAt (initEventsOf s bus address) k)) := by
  cases k with
  | zero => exact reaches_init_openFails bus address hf.2
  | succ j =>
    by_cases hlast : j = 9
    · subst hlast
      have ends := reaches_init_end bus address htimer hf.1
      rw [hf.2] at ends
      have hcalls : callCount (eventsToI7 s bus address) = 10 := rfl
      have hcut := cutAt_append_add (eventsToI7 s bus address)
        [.block (some (s.oracle.peek 0).handle) s.cfg.regAllBase ⟨0, 0, 0, 0⟩ true] 0
      have herror := errorAt_append_add (eventsToI7 s bus address)
        [.block (some (s.oracle.peek 0).handle) s.cfg.regAllBase ⟨0, 0, 0, 0⟩ true] 0
      rw [hcalls] at hcut herror
      rw [initEventsOf_eq, hcut, herror]
      exact ends
    · obtain ⟨u, t, b, trail, -⟩ := trail_of_afterOpen bus address htimer
      have hmiddle : j < callCount (middleEvents s.cfg (some (s.oracle.peek 0).handle) (s.oracle.peek 3).byte
          (s.oracle.peek 5).byte) := by rw [callCount_middleEvents]; omega
      have beside : Beside (opened s bus address) (afterOpen s bus address) := {}
      rw [Nat.add_comm] at hf
      have ends := trail.reaches_endedAs hmiddle (hf.after rfl)
      rw [beside.endedAs_eq (j := 1) rfl rfl, ← cutAt_append_of_lt hmiddle, ← errorAt_append_of_lt hmiddle, Nat.add_comm 1] at ends
      have hregs : initFailed s bus address (j + 1) = opened s bus address := by
        rw [initFailed, if_neg (by omega), if_neg (by omega)]
      rw [hregs, initEventsOf_eq, eventsToI7, List.cons_append, cutAt_cons_succ rfl, errorAt_cons_succ rfl]
      exact (Reaches.step (seqStep_I1_ok bus address (hf.1 0 (by omega)))).trans ends

end Init

end Sys2Proof.Machine
end

section
/-! SUPPORT. What a whole command ends in, for every command and every quiet state, said once (`Ends`); then the statements
about single commands. -/

namespace Sys2Proof.Machine

/-- What a command of a quiet state ends in: an answer at once, or one of the four sequences, whole or cut at a failed
call. -/
inductive Ends (s : State) : Instr → State → Prop
  | answered {i r} (h : Answers s i r) : Ends s i (respond s r)
  | init bus address (hlife : s.life = .UNOPENED) (hok : AnswersOk s 11) :
      Ends s (.init bus address) (endedAs .READY (tuned s bus address) 11 (initEventsOf s bus address) .ok)
  | initFails bus address (hlife : s.life = .UNOPENED) {k} (hk : k < 11) (hf : FailsAt s k) :
      Ends s (.init bus address) (endedAs .FAILED (initFailed s bus address k) (k + 1)
        (cutAt (initEventsOf s bus address) k) (errorAt (initEventsOf s bus address) k))
  | setfreq hz (hlife : s.life = .READY) (hne : hz ≠ 0) (hok : AnswersOk s 5) :
      Ends s (.setfreq hz) (endedAs .READY (retuned s (prescaleOf hz)) 5
        (freqEvents s.cfg s.busHandle (s.oracle.peek 0).byte (prescaleOf hz)) .ok)
  | setfreqFails hz (hlife : s.life = .READY) (hne : hz ≠ 0) {k} (hk : k < 5) (hf : FailsAt s k) :
      Ends s (.setfreq hz) (endedAs .READY s (k + 1)
        (cutAt (freqEvents s.cfg s.busHandle (s.oracle.peek 0).byte (prescaleOf hz)) k)
        (errorAt (freqEvents s.cfg s.busHandle (s.oracle.peek 0).byte (prescaleOf hz)) k))
  | duty {i a x} (hlife : s.life = .READY) (hi : WritesDuty s i a x) :
      Ends s i (endedAs .READY s 1 [.block s.busHandle a (dutyBlock x) (s.oracle.peek 0).ok]
        (blockAnswer a (s.oracle.peek 0).ok))
  | close (hlife : s.life = .READY) :
      Ends s .close (endedAs .CLOSED { s with busHandle := none } 1
        [.block s.busHandle s.cfg.regAllBase ⟨0, 0, 0, 0⟩ (s.oracle.peek 0).ok, .busClose s.busHandle]
        (blockAnswer s.cfg.regAllBase (s.oracle.peek 0).ok))

/-- What begins ends, as the transport answers. -/
theorem exists_reaches_ends {s t : State} {i : Instr} (q : Quiet s) (h : Begins s i t) :
    ∃ u, Reaches t u ∧ u.phase = .IDLE ∧ Ends s i u := by
  cases h with
  | answers h => exact ⟨_, .refl _, q.phase, .answered h⟩
  | init bus address hlife =>
    obtain hok | ⟨k, hk, hf⟩ := answersOk_or_failsAt s 11
    · exact ⟨_, reaches_init_ok bus address q.settleTimer hok, rfl, .init bus address hlife hok⟩
    · exact ⟨_, reaches_init_fails bus address q.settleTimer hk hf, rfl, .initFails bus address hlife hk hf⟩
  | setfreq hz hlife hne =>
    obtain hok | ⟨k, hk, hf⟩ := answersOk_or_failsAt s 5
    · exact ⟨_, reaches_setfreq_ok q hlife hok, rfl, .setfreq hz hlife hne hok⟩
    · exact ⟨_, reaches_setfreq_fails q hlife hk hf, rfl, .setfreqFails hz hlife hne hk hf⟩
  | duty hlife hi => exact ⟨_, reaches_duty hlife _ _, rfl, .duty hlife hi⟩
  | close hlife => exact ⟨_, reaches_close q.deferred, rfl, .close hlife⟩

theorem exists_exec_ends {s : State} (q : Quiet s) (i : Instr) : ∃ t, exec i s = .next t ∧ Ends s i t := by
  obtain ⟨t, reaches, hidle, ends⟩ := exists_reaches_ends q (beginCommand_begins i s)
  exact ⟨t, exec_eq_of_reaches q reaches hidle, ends⟩

theorem ends_of_exec {s t : State} {i : Instr} (q : Quiet s) (h : exec i s = .next t) : Ends s i t := by
  obtain ⟨t', ht', ends⟩ := exists_exec_ends q i
  obtain rfl : t' = t := Host.Outcome.next.inj (ht'.symm.trans h)
  exact ends

/-! ### INIT -/

theorem exec_init {s t : State} {bus : BusNumber} {address : DevAddress} (q : Quiet s) (hlife : s.life = .UNOPENED)
    (h : Reaches (goTo .I1 (latched s bus address)) t) (hidle : t.phase = .IDLE) :
    exec (.init bus address) s = .next t := by
  have runs : lifecycle s.life .INIT = none := by rw [hlife]; rfl
  refine exec_eq_of_reaches q ?_ hidle
  rwa [beginCommand, beginInit, runs]

theorem freqOf_121 : freqOf 121 = 390625 / 7808 := by rw [freqOf_eq]; norm_num

theorem periodUsOf_121 : periodUsOf 121 = 499712 / 25 := by rw [periodUsOf_eq]; norm_num

theorem Quiet.initFailed {s : State} (q : Quiet s) (bus : BusNumber) (address : DevAddress) (k : Nat) :
    Quiet (initFailed s bus address k) := by
  rw [Machine.initFailed]
  split_ifs <;> exact { q with }

/-- Settles O18: INIT with no failed call, its registers those of prescale 121. -/
theorem initRunsItsFourteenEvents : Obligations.InitRunsItsFourteenEvents := by
  intro s bus address q hlife hok
  have qt : Quiet (tuned s bus address) := { q with }
  rw [exec_init q hlife (reaches_init_ok bus address q.settleTimer hok) rfl, qt.endedAs_eq, tuned, retuned, freqOf_121, periodUsOf_121]
  rfl

/-- Settles O19: the registers are those of the steps that completed. -/
theorem initFailsPrecisely : Obligations.InitFailsPrecisely := by
  intro s bus address k q hlife hhandle hfreq hperiod hk hf
  rw [exec_init q hlife (reaches_init_fails bus address q.settleTimer hk hf) rfl, (q.initFailed ..).endedAs_eq]
  by_cases h0 : k = 0
  · subst h0
    simp [initFailed, initEventsOf, latched, hhandle, hfreq, hperiod]
  · by_cases h10 : k = 10
    · subst h10
      simp [initFailed, initEventsOf, tuned, retuned, opened, latched, freqOf_121, periodUsOf_121]
    · simp [initFailed, initEventsOf, opened, latched, h0, h10, hfreq, hperiod]

/-! ### SETFREQ and GETFREQ -/

theorem exec_setfreq {s t : State} {hz : Rat} (q : Quiet s) (hlife : s.life = .READY) (hne : hz ≠ 0)
    (h : Reaches (enterFreq .F hz s) t) (hidle : t.phase = .IDLE) : exec (.setfreq hz) s = .next t := by
  refine exec_eq_of_reaches q ?_ hidle
  rwa [beginCommand, beginSetfreq, hlife, lifecycle, if_neg hne]

/-- A command of READY that stays there. -/
theorem Quiet.endedAs_READY {s : State} (q : Quiet s) (hlife : s.life = .READY) (n : Nat) (es : List Event) (r : Response) :
    endedAs .READY s n es r = { s with oracle := s.oracle.skip n, trace := s.trace ++ es, rsp := some r } := by
  rw [q.endedAs_eq, ← hlife]

/-- Settles O20. -/
theorem setfreqRunsItsSixEvents : Obligations.SetfreqRunsItsSixEvents := by
  intro s hz q hlife hne hok
  rw [exec_setfreq q hlife hne (reaches_setfreq_ok q hlife hok) rfl]
  have qt : Quiet (retuned s (prescaleOf hz)) := { q with }
  rw [qt.endedAs_READY hlife]
  rfl

/-- Settles O21. -/
theorem setfreqFailsPrecisely : Obligations.SetfreqFailsPrecisely := by
  intro s hz k q hlife hne hk hf
  rw [exec_setfreq q hlife hne (reaches_setfreq_fails q hlife hk hf) rfl, q.endedAs_READY hlife]

/-- Settles O23: the lifecycle check, and in READY the stored value. -/
theorem getfreqAnswersStoredFrequency : Obligations.GetfreqAnswersStoredFrequency := by
  refine fun s f q hf => ⟨fun hlife => ?ready, fun hlife => ?closed, fun hlife => ?refused⟩
  case ready =>
    have answers : beginGetfreq s = respond s (.okValue f) := by
      rw [beginGetfreq, hlife, lifecycle, State.readFrequencyHz, hf]
      rfl
    exact congrArg Host.Outcome.next (runCommand_of_respond q answers)
  case closed => exact exec_of_lifecycle q (by rw [hlife]; rfl)
  case refused => exact exec_of_lifecycle q (by rcases hlife with hl | hl <;> rw [hl] <;> rfl)

/-! ### The range of the frequency registers (42_frequency.md R92) -/

theorem freqOf_mem_range {p : Int} (hlow : 3 ≤ p) (hhigh : p ≤ 255) :
    390625 / 16384 ≤ freqOf p ∧ freqOf p ≤ 390625 / 256 := by
  have lower : (3 : Rat) ≤ p := by exact_mod_cast hlow
  have upper : (p : Rat) ≤ 255 := by exact_mod_cast hhigh
  have hpos : (0 : Rat) < 64 * ((p : Rat) + 1) := by positivity
  rw [freqOf_eq, div_le_div_iff₀ (by norm_num) hpos, div_le_div_iff₀ hpos (by norm_num)]
  constructor <;> linarith

theorem periodUsOf_mem_range {p : Int} (hlow : 3 ≤ p) (hhigh : p ≤ 255) :
    65536 / 100 ≤ periodUsOf p ∧ periodUsOf p ≤ 4194304 / 100 := by
  have lower : (3 : Rat) ≤ p := by exact_mod_cast hlow
  have upper : (p : Rat) ≤ 255 := by exact_mod_cast hhigh
  rw [periodUsOf_eq]
  constructor <;> linarith

/-- PIP's example: 2000 Hz is too fast, and is clamped. -/
theorem prescaleOf_2000 : prescaleOf 2000 = 3 :=
  prescaleOf_of_le (by
    have raw : prescaleRaw 2000 < 3 := (prescaleRaw_lt_iff_of_ne_zero (by norm_num) (by decide)).mpr (.inl (by norm_num))
    omega)

/-- A failed call never answers OK (20_memory.md R33 to R37). -/
theorem error_ne_ok {e : Event} (h : e.canFail = true) : e.error ≠ .ok := by
  cases e with
  | delay | busClose => cases h
  | _ => nofun

theorem errorAt_eq_error {es : List Event} {k : Nat} (hk : k < callCount es) :
    ∃ e ∈ es, e.canFail = true ∧ errorAt es k = e.error := by
  obtain ⟨hmem, hcall⟩ := List.mem_filter.mp (List.getElem_mem hk)
  exact ⟨_, hmem, hcall, by rw [errorAt, List.getElem?_eq_getElem hk]⟩

theorem errorAt_ne_ok {es : List Event} {k : Nat} (hk : k < callCount es) : errorAt es k ≠ .ok := by
  obtain ⟨e, -, hcall, herror⟩ := errorAt_eq_error hk
  rw [herror]
  exact error_ne_ok hcall

/-- A SETFREQ that answers OK has run its whole sequence. -/
theorem Ends.setfreq_of_ok {s t : State} {hz : Rat} (h : Ends s (.setfreq hz) t) (hlife : s.life = .READY)
    (hrsp : t.rsp = some .ok) :
    t = endedAs .READY (retuned s (prescaleOf hz)) 5
      (freqEvents s.cfg s.busHandle (s.oracle.peek 0).byte (prescaleOf hz)) .ok := by
  cases h with
  | answered h =>
    obtain rfl := Option.some.inj hrsp
    cases h with
    | refused h => rw [hlife] at h; cases h
  | setfreq => rfl
  | setfreqFails _ _ _ hk => exact absurd (Option.some.inj hrsp) (errorAt_ne_ok hk)
  | duty _ hi => cases hi

/-- Settles O24: the registers are those of a prescale of R83's range. -/
theorem setfreqRealisedRange : Obligations.SetfreqRealisedRange := by
  intro s t hz q hlife h hrsp
  obtain ⟨hlow, hhigh⟩ := prescaleOf_mem_range hz
  obtain ⟨flow, fhigh⟩ := freqOf_mem_range hlow hhigh
  obtain ⟨ulow, uhigh⟩ := periodUsOf_mem_range hlow hhigh
  rw [(ends_of_exec q h).setfreq_of_ok hlife hrsp]
  refine ⟨_, _, rfl, rfl, flow, fhigh, ulow, uhigh, ?_⟩
  rintro rfl
  rw [prescaleOf_2000, freqOf_eq]
  norm_num

/-! ### SETDUTY, SETPW and CLOSE -/

theorem exec_duty {s : State} {i : Instr} {a : RegAddr} {x : Rat} (q : Quiet s) (hlife : s.life = .READY)
    (hi : WritesDuty s i a x) :
    exec i s = .next { s with
      oracle := s.oracle.skip 1
      trace := s.trace ++ [.block s.busHandle a (dutyBlock x) (s.oracle.peek 0).ok]
      rsp := some (blockAnswer a (s.oracle.peek 0).ok) } := by
  have begins : beginCommand i s = enterDuty .D1 a x s := by
    cases hi with
    | setduty x ha => rw [beginCommand, beginSetduty, hlife, lifecycle, ha]
    | setpw w ha => rw [beginCommand, beginSetpw, hlife, lifecycle, ha]
  rw [exec_eq_of_reaches q (begins ▸ reaches_duty hlife a x) rfl, q.endedAs_READY hlife]

/-- Settles O25. -/
theorem setdutyWritesItsBlock : Obligations.SetdutyWritesItsBlock := by
  intro s ch x a q hlife ha hok
  rw [exec_duty q hlife (.setduty x ha), hok]
  rfl

/-- SETPW is one block write of the width's percentage of the stored period. -/
theorem writesDuty_setpw {s : State} {ch : Channel} {w u : Rat} {a : RegAddr} (ha : addrOf s.cfg ch = some a)
    (hu : s.pulseWidthUs = some u) : WritesDuty s (.setpw ch w) a (w / u * 100) := by
  have period : s.readPulseWidthUs = u := by rw [State.readPulseWidthUs, hu]; rfl
  exact period ▸ .setpw w ha

/-- Settles O26. -/
theorem blockWriteFailureIsReported : Obligations.BlockWriteFailureIsReported := by
  intro s ch x u a q hlife ha hu hfail
  rw [exec_duty q hlife (.setduty x ha), exec_duty q hlife (writesDuty_setpw ha hu), hfail]
  exact ⟨rfl, rfl⟩

/-- Settles O29. -/
theorem setpwWritesItsBlock : Obligations.SetpwWritesItsBlock := by
  intro s ch w u a q hlife ha hu
  rw [exec_duty q hlife (writesDuty_setpw ha hu), exec_duty q hlife (.setduty _ ha)]
  refine ⟨fun hok => ?_, rfl⟩
  rw [hok]
  rfl

/-- Settles O30. -/
theorem closeZeroesAndReleases : Obligations.CloseZeroesAndReleases := by
  intro s q hlife hok
  have begins : beginCommand .close s = enterDuty .X1 s.cfg.regAllBase 0 s := by
    rw [beginCommand, beginClose, hlife, lifecycle]
  have qt : Quiet { s with busHandle := none } := { q with }
  rw [exec_eq_of_reaches q (begins ▸ reaches_close q.deferred) rfl, qt.endedAs_eq, hok]
  rfl

end Sys2Proof.Machine
end

section
/-! SUPPORT. The ports (30_encoding.md R60; 60_exceptions.md R125, R134; 70_reset_and_hazards.md R141): what a step is by what
the host presents. -/

namespace Sys2Proof.Machine

theorem step_of_reset {s : State} {rest : List HostInput} (h : s.hostIn = .reset 0 :: rest) :
    step s = .next (applyReset { s with hostIn := rest }) := by
  rw [step, hostStep, h]

theorem step_of_reset_succ {s : State} {n : Nat} {rest : List HostInput} (h : s.hostIn = .reset (n + 1) :: rest) :
    step s = portStep { s with hostIn := .reset n :: rest } := by
  rw [step, hostStep, h]

theorem step_of_no_reset {s : State} (h : ∀ n rest, s.hostIn ≠ .reset n :: rest) : step s = portStep s := by
  unfold step hostStep
  split
  next rest hin => exact absurd hin (h 0 rest)
  next n rest hin => exact absurd hin (h (n + 1) rest)
  next => rfl
  next => rfl

theorem portStep_delivers {s : State} {r : Response} (hidle : s.phase = .IDLE) (hrsp : s.rsp = some r) :
    portStep s = .next (deliver s r) := by
  rw [portStep, if_pos hidle, hrsp]

theorem portStep_runs {s : State} (hrun : s.phase ≠ .IDLE) : portStep s = .next (seqStep s) := by
  rw [portStep, if_neg hrun]

theorem step_accepts {s : State} {w : CmdWord} {rest : List HostInput} (hidle : s.phase = .IDLE) (hrsp : s.rsp = none)
    (hin : s.hostIn = .command w :: rest) : step s = acceptWord w { s with hostIn := rest } := by
  rw [step_of_no_reset (by rw [hin]; nofun), portStep, if_pos hidle, hrsp, hin]

theorem resetAhead_eq_false {ins : List HostInput} (h : ∀ n rest, ins ≠ .reset n :: rest) : resetAhead ins = false := by
  cases ins with
  | nil => rfl
  | cons first rest =>
    cases first with
    | command w => rfl
    | reset n => exact absurd rfl (h n rest)

/-- Settles O34. -/
theorem illegalWordIsAnswered : Obligations.IllegalWordIsAnswered := by
  intro s w rest e q hin hdecode
  rw [step_accepts q.phase q.rsp hin, acceptWord, hdecode]
  rfl

/-- Settles O35. -/
theorem stepRunsDecodedInstruction : Obligations.StepRunsDecodedInstruction := by
  intro s w rest i hidle hrsp hin hnoReset hdecode
  have notAhead : resetAhead rest = false := resetAhead_eq_false hnoReset
  rw [step_accepts hidle hrsp hin, acceptWord, hdecode]
  exact if_neg (by rw [notAhead]; decide)

theorem accepts_eq_false {s : State} (h : s.phase ≠ .IDLE ∨ s.rsp ≠ none) : s.accepts = false := by
  by_contra haccepts
  simp only [State.accepts, Bool.not_eq_false, Bool.and_eq_true, decide_eq_true_eq, Option.isNone_iff_eq_none] at haccepts
  exact h.elim (absurd haccepts.1) (absurd haccepts.2)

/-- Settles O36: a port that does not accept leaves the state to wait, and an idle one delivers first. -/
theorem portAcceptsOneAtATime : Obligations.PortAcceptsOneAtATime := by
  refine ⟨fun s i h => ?_, fun s r hidle hrsp hnoReset => ?_⟩
  · rw [exec_eq_runCommand, runCommand_waits _ (accepts_eq_false h)]
  · rw [step_of_no_reset hnoReset, portStep_delivers hidle hrsp]
    rfl

/-- Settles O46. -/
theorem resetState : Obligations.ResetState :=
  ⟨rfl, rfl, rfl, rfl, rfl, rfl, rfl, rfl, rfl, rfl, rfl, rfl, rfl, rfl, rfl, rfl, rfl⟩

/-- Settles O47. -/
theorem resetInputInAnyState : Obligations.ResetInputInAnyState := fun _ _ h => step_of_reset h

end Sys2Proof.Machine
end

section
/-! SUPPORT. How `life` moves (10_state.md R14): in one sequencer step, in a whole command, and so in one step. -/

namespace Sys2Proof.Machine

/-- R14's transitions of `life` that a command makes. -/
def LifeMoves (l l' : Life) : Prop :=
  l' = l ∨ (l = .UNOPENED ∧ (l' = .READY ∨ l' = .FAILED)) ∨ (l = .READY ∧ l' = .CLOSED)

theorem Ends.lifeMoves {s t : State} {i : Instr} (h : Ends s i t) : LifeMoves s.life t.life := by
  cases h with
  | answered => exact .inl rfl
  | init _ _ hlife => exact .inr (.inl ⟨hlife, .inl rfl⟩)
  | initFails _ _ hlife => exact .inr (.inl ⟨hlife, .inr rfl⟩)
  | setfreq _ hlife => exact .inl hlife.symm
  | setfreqFails _ hlife => exact .inl hlife.symm
  | duty hlife => exact .inl hlife.symm
  | close hlife => exact .inr (.inr ⟨hlife, rfl⟩)

/-- `life` after one sequencer step from `s`: INIT and step X2 alone write it. -/
def LifeStep (s : State) (l : Life) : Prop :=
  l = s.life ∨ (s.phase.inInit = true ∧ (l = .READY ∨ l = .FAILED)) ∨ (s.phase = .X2 ∧ l = .CLOSED)

section Steps
variable {s : State} {after done : State → State}

theorem raise_lifeStep (ev : Event) (e : Response) : LifeStep s (raise (s.draw.emit ev) e).life := by
  cases hinit : s.phase.inInit with
  | true => rw [raise_inInit _ _ (by exact hinit)]; exact .inr (.inl ⟨hinit, .inr rfl⟩)
  | false =>
    by_cases hX1 : s.phase = .X1
    · rw [raise_X1 _ _ (by exact hX1)]; exact .inl rfl
    · rw [raise_other _ _ (by exact hinit) (by exact hX1)]; exact .inl rfl

theorem openStep_lifeStep (s : State) : LifeStep s (openStep s).life := by
  cases ha : s.answer.ok
  · rw [openStep_fail s ha]; exact raise_lifeStep _ _
  · rw [openStep_ok s ha]; exact .inl rfl

theorem writeStep_lifeStep (a : RegAddr) (v : Byte) (hafter : ∀ u, (after u).life = u.life) :
    LifeStep s (writeStep s a v after).life := by
  cases ha : s.answer.ok
  · rw [writeStep_fail s a v after ha]; exact raise_lifeStep _ _
  · rw [writeStep_ok s a v after ha, hafter]; exact .inl rfl

theorem readModeStep_lifeStep (next : Phase) : LifeStep s (readModeStep s next).life := by
  cases ha : s.answer.ok
  · rw [readModeStep_fail s next ha]; exact raise_lifeStep _ _
  · rw [readModeStep_ok s next ha]; exact .inl rfl

theorem delayStep_life (hafter : ∀ u, (after u).life = u.life) : (delayStep s after).life = s.life := by
  cases ht : s.settleTimer with
  | none => rw [delayStep_start s after ht]; rfl
  | some n => rw [delayStep_end s after n ht, hafter]

theorem dutyStep_lifeStep (hdone : ∀ u, u.life = s.life → LifeStep s (done u).life) :
    LifeStep s (dutyStep done s).life := by
  cases ha : s.answer.ok
  · rw [dutyStep_fail s done ha]; exact raise_lifeStep _ _
  · rw [dutyStep_ok s done ha]; exact hdone _ rfl

theorem freqStep_lifeStep (wrap : FreqStep → Phase) (hdone : ∀ u, (done u).life = u.life) (f : FreqStep) :
    LifeStep s (freqStep wrap done f s).life := by
  cases f with
  | F1 => exact readModeStep_lifeStep _
  | F2 => exact writeStep_lifeStep _ _ fun _ => rfl
  | F3 => exact writeStep_lifeStep _ _ fun _ => rfl
  | F4 => exact writeStep_lifeStep _ _ fun _ => rfl
  | F5 => exact .inl (delayStep_life fun _ => rfl)
  | F6 => exact writeStep_lifeStep _ _ fun _ => rfl
  | F7 => exact .inl (hdone _)

theorem seqStep_lifeStep (s : State) : LifeStep s (seqStep s).life := by
  cases hp : s.phase with
  | IDLE => rw [seqStep_IDLE hp]; exact .inl rfl
  | I1 => rw [seqStep_I1 hp]; exact openStep_lifeStep s
  | I2 => rw [seqStep_I2 hp]; exact writeStep_lifeStep _ _ fun _ => rfl
  | I3 => rw [seqStep_I3 hp]; exact writeStep_lifeStep _ _ fun _ => rfl
  | I4 => rw [seqStep_I4 hp]; exact .inl (delayStep_life fun _ => rfl)
  | I5read => rw [seqStep_I5read hp]; exact readModeStep_lifeStep _
  | I5write => rw [seqStep_I5write hp]; exact writeStep_lifeStep _ _ fun _ => rfl
  | I6 => rw [seqStep_I6 hp]; exact .inl (delayStep_life fun _ => rfl)
  | I7 f => rw [seqStep_I7 f hp]; exact freqStep_lifeStep (done := enterI8) _ (fun _ => rfl) f
  | I8 => rw [seqStep_I8 hp]; exact dutyStep_lifeStep fun _ _ => .inr (.inl ⟨by rw [hp]; rfl, .inl rfl⟩)
  | F f => rw [seqStep_F f hp]; exact freqStep_lifeStep (done := (finish · .ok)) _ (fun _ => rfl) f
  | D1 => rw [seqStep_D1 hp]; exact dutyStep_lifeStep fun _ hu => .inl hu
  | X1 => rw [seqStep_X1 hp]; exact dutyStep_lifeStep fun _ hu => .inl hu
  | X2 => rw [seqStep_X2 hp]; exact .inr (.inr ⟨hp, rfl⟩)

end Steps

theorem Inv.lifeMoves_seqStep {s : State} (i : Inv s) : LifeMoves s.life (seqStep s).life := by
  obtain same | ⟨hinit, ended⟩ | ⟨hX2, closed⟩ := seqStep_lifeStep s
  · exact .inl same
  · exact .inr (.inl ⟨(i.initRuns hinit).1, ended⟩)
  · exact .inr (.inr ⟨i.otherRuns (by rw [hX2]; nofun) (by rw [hX2]; rfl), closed⟩)

/-- The whole command of a step is one of a quiet state. -/
theorem ends_seqSteps {s : State} (q : Quiet s) (i : Instr) : Ends s i (seqSteps maxSeqSteps (beginCommand i s)) := by
  obtain ⟨u, reaches, hidle, ends⟩ := exists_reaches_ends q (beginCommand_begins i s)
  rwa [reaches.whole hidle]

theorem Begins.life {s t : State} {i : Instr} (h : Begins s i t) : t.life = s.life := by
  cases h <;> rfl

/-- Settles O50: a reset goes to UNOPENED, and every other thing a step can do makes R14's moves. -/
theorem lifecycleTransitions : Obligations.LifecycleTransitions := by
  intro s t i h
  have moves : LifeMoves s.life t.life ∨ (t.life = .UNOPENED ∧ ∃ rest, s.hostIn = .reset 0 :: rest) := by
    cases stepsTo_of_step h with
    | reset rest hin => exact .inr ⟨rfl, rest, hin⟩
    | delivers | waits | illegal => exact .inl (.inl rfl)
    | runs ins => exact .inl (i.with_hostIn ins).lifeMoves_seqStep
    | begins ins c => exact .inl (.inl (beginCommand_begins c _).life)
    | executes ins c haccepts => exact .inl (ends_seqSteps ((i.with_hostIn ins).quiet haccepts) c).lifeMoves
  obtain (same | fromUnopened | fromReady) | reset := moves
  · exact .inl same
  · exact .inr (.inl fromUnopened)
  · exact .inr (.inr (.inl fromReady))
  · exact .inr (.inr (.inr reset))

end Sys2Proof.Machine
end

section
/-! SUPPORT. What a whole command emits (60_exceptions.md R126): its sequence of events, whole, or cut at a call that failed;
in CLOSE the release follows all the same (45_shutdown.md R116). -/

namespace Sys2Proof.Machine

/-! ### A failed call beside the same call answered `ok` -/

section AsFailed
variable (e : Event)

@[simp] theorem Event.asFailed_error : e.asFailed.error = e.error := by cases e <;> rfl
@[simp] theorem Event.asFailed_through (h : Option Handle) : e.asFailed.through h = e.through h := by cases e <;> rfl
@[simp] theorem Event.asFailed_writesByte (a : RegAddr) : e.asFailed.writesByte a = e.writesByte a := by cases e <;> rfl

end AsFailed

theorem cutAt_split {es : List Event} {k : Nat} (hk : k < callCount es) :
    ∃ pre e post, es = pre ++ e :: post ∧ e.canFail = true ∧ cutAt es k = pre ++ [e.asFailed] ∧ errorAt es k = e.error := by
  induction es generalizing k with
  | nil => exact absurd hk (Nat.not_lt_zero k)
  | cons e es ih =>
    cases he : e.canFail with
    | false =>
      rw [callCount_cons_pass he] at hk
      obtain ⟨pre, e', post, rfl, hcan, hcut, herror⟩ := ih hk
      exact ⟨e :: pre, e', post, rfl, hcan, by rw [cutAt_cons_pass he, hcut]; rfl, by rw [errorAt_cons_pass he, herror]⟩
    | true =>
      cases k with
      | zero => exact ⟨[], e, es, rfl, he, cutAt_cons_zero he es, errorAt_cons_zero he es⟩
      | succ k =>
        rw [callCount_cons_call he, Nat.add_lt_add_iff_right] at hk
        obtain ⟨pre, e', post, rfl, hcan, hcut, herror⟩ := ih hk
        exact ⟨e :: pre, e', post, rfl, hcan, by rw [cutAt_cons_succ he, hcut]; rfl, by rw [errorAt_cons_succ he, herror]⟩

/-! ### The events of a command -/

/-- The events a command of `s` emits while its calls succeed; none for one that is answered at once. -/
inductive Script (s : State) : Instr → List Event → Prop
  | nothing {i} : Script s i []
  | init bus address (hlife : s.life = .UNOPENED) : Script s (.init bus address) (initEventsOf s bus address)
  | setfreq hz (hlife : s.life = .READY) :
      Script s (.setfreq hz) (freqEvents s.cfg s.busHandle (s.oracle.peek 0).byte (prescaleOf hz))
  | duty {i a x} (hlife : s.life = .READY) (hi : WritesDuty s i a x) :
      Script s i [.block s.busHandle a (dutyBlock x) true]
  | close (hlife : s.life = .READY) :
      Script s .close [.block s.busHandle s.cfg.regAllBase ⟨0, 0, 0, 0⟩ true, .busClose s.busHandle]

/-- What is emitted of a sequence, and answered. -/
inductive Emitted : List Event → List Event → Response → Prop
  | whole script r : Emitted script script r
  | cut pre e post (he : e.canFail = true) : Emitted (pre ++ e :: post) (pre ++ [e.asFailed]) e.error
  | released e via (he : e.canFail = true) : Emitted [e, .busClose via] [e.asFailed, .busClose via] e.error

theorem emitted_cutAt {script : List Event} {k : Nat} (hk : k < callCount script) :
    Emitted script (cutAt script k) (errorAt script k) := by
  obtain ⟨pre, e, post, rfl, hcan, hcut, herror⟩ := cutAt_split hk
  rw [hcut, herror]
  exact .cut pre e post hcan

theorem Ends.emitted {s t : State} {i : Instr} (h : Ends s i t) :
    ∃ script es r, Script s i script ∧ Emitted script es r ∧ t.trace = s.trace ++ es ∧ t.rsp = some r := by
  cases h with
  | @answered _ r => exact ⟨[], [], r, .nothing, .whole _ _, (List.append_nil _).symm, rfl⟩
  | init bus address hlife => exact ⟨_, _, _, .init bus address hlife, .whole _ _, rfl, rfl⟩
  | @initFails bus address hlife k hk hf =>
    have htrace : (initFailed s bus address k).trace = s.trace := by
      rw [initFailed]
      split_ifs <;> rfl
    exact ⟨_, _, _, .init bus address hlife, emitted_cutAt hk, congrArg (· ++ _) htrace, rfl⟩
  | setfreq hz hlife => exact ⟨_, _, _, .setfreq hz hlife, .whole _ _, rfl, rfl⟩
  | setfreqFails hz hlife _ hk => exact ⟨_, _, _, .setfreq hz hlife, emitted_cutAt hk, rfl, rfl⟩
  | duty hlife hi =>
    refine ⟨_, _, _, .duty hlife hi, ?_, rfl, rfl⟩
    cases (s.oracle.peek 0).ok
    · exact .cut [] (.block _ _ _ true) [] rfl
    · exact .whole _ _
  | close hlife =>
    refine ⟨_, _, _, .close hlife, ?_, rfl, rfl⟩
    cases (s.oracle.peek 0).ok
    · exact .released (.block _ _ _ true) _ rfl
    · exact .whole _ _

/-- The events a command is seen to emit are those it ended with. -/
theorem emitted_of_exec {s t : State} {i : Instr} {es : List Event} (q : Quiet s) (h : exec i s = .next t)
    (htrace : t.trace = s.trace ++ es) : ∃ script r, Script s i script ∧ Emitted script es r ∧ t.rsp = some r := by
  obtain ⟨script, es', r, hscript, hemitted, htrace', hrsp⟩ := (ends_of_exec q h).emitted
  obtain rfl : es' = es := List.append_cancel_left (htrace'.symm.trans htrace)
  exact ⟨script, r, hscript, hemitted, hrsp⟩

/-- What holds of every event of a sequence, a failed call in its place or not, holds of what is emitted. -/
theorem Emitted.forall_mem {script es : List Event} {r : Response} (h : Emitted script es r) {P : Event → Prop}
    (hfailed : ∀ e, P e → P e.asFailed) (hscript : ∀ e ∈ script, P e) : ∀ e ∈ es, P e := by
  cases h with
  | whole => exact hscript
  | cut pre e post =>
    simp only [List.forall_mem_append, List.forall_mem_cons] at hscript ⊢
    exact ⟨hscript.1, hfailed e hscript.2.1, nofun⟩
  | released e via =>
    simp only [List.forall_mem_cons] at hscript ⊢
    exact ⟨hfailed e hscript.1, hscript.2⟩

theorem Emitted.length_le {script es : List Event} {r : Response} (h : Emitted script es r) :
    es.length ≤ script.length := by
  cases h with
  | whole => exact le_rfl
  | cut pre e post => simp
  | released => exact le_rfl

theorem Script.length_le {s : State} {i : Instr} {script : List Event} (h : Script s i script) : script.length ≤ 14 := by
  cases h <;> simp [initEventsOf, initEvents, freqEvents]

/-- No call of a sequence is a failed one. -/
theorem Script.unfailed {s : State} {i : Instr} {script : List Event} (h : Script s i script) :
    ∀ e ∈ script, e.failed = false := by
  cases h <;> simp [initEventsOf, initEvents, freqEvents, Event.failed]

/-- Where an element stands in a list with a last one: it is the last, or stands before it. -/
theorem append_cons_eq_concat {α : Type} {before after pre : List α} {x y : α} (h : before ++ x :: after = pre ++ [y]) :
    (before = pre ∧ x = y ∧ after = []) ∨ ∃ mid, pre = before ++ x :: mid ∧ after = mid ++ [y] := by
  obtain rfl | ⟨mid, z, rfl⟩ := after.eq_nil_or_concat
  · obtain ⟨hpre, hlast⟩ := List.append_inj' h rfl
    exact .inl ⟨hpre, List.singleton_inj.mp hlast, rfl⟩
  · have shifted : (before ++ x :: mid) ++ [z] = pre ++ [y] := by simpa using h
    obtain ⟨hpre, hlast⟩ := List.append_inj' shifted rfl
    exact .inr ⟨mid, hpre.symm, by rw [List.singleton_inj.mp hlast, List.concat_eq_append]⟩

/-- A failed call in what is emitted is the one it was cut at. -/
theorem Emitted.at_failed {script es before after : List Event} {e : Event} {r : Response} (h : Emitted script es r)
    (hscript : ∀ e ∈ script, e.failed = false) (hes : es = before ++ e :: after) (he : e.failed = true) :
    (∀ b ∈ before, b.failed = false) ∧ r = e.error ∧
      (after = [] ∨ ∃ e' via, script = [e', .busClose via] ∧ after = [.busClose via]) := by
  have hnotScript : e ∉ script := fun hmem => by
    rw [hscript e hmem] at he
    cases he
  cases h with
  | whole => exact absurd (by rw [hes]; simp) hnotScript
  | cut pre e' post =>
    obtain ⟨rfl, rfl, rfl⟩ | ⟨mid, rfl, -⟩ := append_cons_eq_concat hes.symm
    · exact ⟨fun b hb => hscript b (List.mem_append_left _ hb), e'.asFailed_error.symm, .inl rfl⟩
    · exact absurd (by simp) hnotScript
  | released e' via =>
    obtain ⟨-, rfl, -⟩ | ⟨mid, hmid, rfl⟩ := append_cons_eq_concat (pre := [e'.asFailed]) hes.symm
    · cases he
    · obtain ⟨rfl, rfl, rfl⟩ : before = [] ∧ e = e'.asFailed ∧ mid = [] := by
        cases before with
        | nil => simpa [eq_comm] using hmid
        | cons => simp at hmid
      exact ⟨nofun, e'.asFailed_error.symm, .inr ⟨e', via, rfl, rfl⟩⟩

theorem Script.release {s : State} {i : Instr} {e : Event} {via : Option Handle}
    (h : Script s i [e, .busClose via]) : i.cmd = .CLOSE ∧ via = s.busHandle := by
  generalize hes : [e, .busClose via] = es at h
  cases h with
  | close =>
    have both : e = .block s.busHandle s.cfg.regAllBase ⟨0, 0, 0, 0⟩ true ∧ via = s.busHandle := by simpa using hes
    exact ⟨rfl, both.2⟩
  | nothing | duty => simp at hes
  | init | setfreq => simp [initEventsOf, initEvents, freqEvents] at hes

/-- Settles O39: what is emitted was cut at the failed call, and only CLOSE emits anything behind it. -/
theorem failedCallEndsTheTrace : Obligations.FailedCallEndsTheTrace := by
  intro s t i before after e q h htrace he
  rw [List.append_assoc] at htrace
  obtain ⟨script, r, hscript, hemitted, hrsp⟩ := emitted_of_exec q h htrace
  obtain ⟨unfailed, rfl, hafter⟩ := hemitted.at_failed hscript.unfailed rfl he
  refine ⟨unfailed, hrsp, hafter.imp_right ?_⟩
  rintro ⟨e', via, rfl, rfl⟩
  obtain ⟨hcmd, rfl⟩ := hscript.release
  exact ⟨hcmd, rfl⟩

/-! ### The handle of the calls (10_state.md R15) -/

theorem freqEvents_through (c : Params) (via : Option Handle) (m : Byte) (p : Int) :
    ∀ e ∈ freqEvents c via m p, e.through via = true := by
  simp [freqEvents, Event.through]

theorem Script.through {s : State} {i : Instr} {script : List Event} (h : Script s i script) (hlife : s.life = .READY) :
    ∀ e ∈ script, e.through s.busHandle = true := by
  cases h with
  | nothing => simp
  | init _ _ hunopened => rw [hlife] at hunopened; cases hunopened
  | setfreq => exact freqEvents_through _ _ _ _
  | duty => simp [Event.through]
  | close => simp [Event.through]

/-- Settles O45. -/
theorem callsGoThroughTheHandle : Obligations.CallsGoThroughTheHandle := by
  intro s t i es inv haccepts hlife h htrace
  obtain ⟨script, r, hscript, hemitted, -⟩ := emitted_of_exec (inv.quiet haccepts) h htrace
  refine ⟨(inv.ready hlife).1, hemitted.forall_mem (fun e he => ?_) (hscript.through hlife)⟩
  rwa [Event.asFailed_through]

/-! ### The register space (log 12) -/

/-- The event is a write to the address, successful or not. -/
def Event.touches (a : RegAddr) : Event → Bool
  | .write _ r _ _ => decide (a = r)
  | .block _ r _ _ => inBlock r a
  | .busOpen _ _ _ => false
  | .read _ _ _ => false
  | .delay _ => false
  | .busClose _ => false

@[simp] theorem Event.asFailed_touches (e : Event) (a : RegAddr) : e.asFailed.touches a = e.touches a := by
  cases e <;> rfl

theorem Event.effect_of_not_touches {a : RegAddr} {e : Event} (h : e.touches a = false) (old : RegView) :
    e.effect a old = old := by
  cases e with
  | write via r v ok => exact if_neg (of_decide_eq_false h)
  | block via r b ok => rw [Event.effect, if_neg]; rw [Event.touches] at h; rw [h]; decide
  | busOpen | read | delay | busClose => rfl

theorem regView_append (t es : List Event) (a : RegAddr) :
    regView (t ++ es) a = es.foldl (Event.effect a) (regView t a) := List.foldl_append

/-- Events that do not touch an address leave its view. -/
theorem regView_append_of_not_touches {es : List Event} {a : RegAddr} (h : ∀ e ∈ es, e.touches a = false)
    (t : List Event) : regView (t ++ es) a = regView t a := by
  induction es generalizing t with
  | nil => rw [List.append_nil]
  | cons e es ih =>
    obtain ⟨he, hes⟩ := List.forall_mem_cons.mp h
    rw [← List.singleton_append, ← List.append_assoc, ih hes, regView_append]
    exact e.effect_of_not_touches he _

/-- Settles O41: the events of each command touch only the addresses the statement excludes. -/
theorem registerSpaceFrame : Obligations.RegisterSpaceFrame := by
  intro s t i a q h hframe
  obtain ⟨script, es, r, hscript, hemitted, htrace, -⟩ := (ends_of_exec q h).emitted
  have untouched : ∀ e ∈ script, e.touches a = false := by
    cases hscript with
    | nothing => simp
    | init bus address =>
      obtain ⟨hmode1, hmode2, hprescale, hblock⟩ := hframe
      simp [initEventsOf, initEvents, Event.touches, hmode1, hmode2, hprescale, hblock]
    | setfreq hz =>
      obtain ⟨hmode1, hprescale⟩ := hframe
      simp [freqEvents, Event.touches, hmode1, hprescale]
    | duty _ hi =>
      cases hi with
      | setduty x ha => simpa [Event.touches] using hframe _ ha
      | setpw w ha => simpa [Event.touches] using hframe _ ha
    | close => simpa [Event.touches] using hframe
  rw [htrace]
  exact regView_append_of_not_touches (hemitted.forall_mem (fun e he => by rwa [Event.asFailed_touches]) untouched) _

theorem lowByte_eq_setWidth (x : StepNum) : x.extractLsb' 0 8 = x.setWidth 8 :=
  (BitVec.setWidth_eq_extractLsb' (by decide)).symm

theorem highByte_eq_shift (x : StepNum) : (x.extractLsb' 8 5).setWidth 8 = (x >>> 8).setWidth 8 := by
  refine BitVec.eq_of_toNat_eq ?_
  have hx : x.toNat < 8192 := x.isLt
  rw [toNat_highByte, BitVec.toNat_setWidth, BitVec.toNat_ushiftRight, Nat.shiftRight_eq_div_pow]
  omega

/-- A successful block write leaves its byte at an offset below 4 (20_memory.md R37, R40). -/
theorem regView_block {t : List Event} {via : Option Handle} {a d : RegAddr} {b : Block} (hd : d.toNat < 4) :
    regView (t ++ [.block via a b true]) (a + d) = .wrote (b.at d) := by
  have offset : a + d - a = d := by rw [BitVec.add_comm, BitVec.add_sub_cancel]
  have inside : inBlock a (a + d) = true := by rw [inBlock, offset]; exact decide_eq_true hd
  rw [regView_append]
  show (if inBlock a (a + d) then _ else _) = _
  rw [if_pos inside, offset]
  rfl

/-- Settles O42: the four bytes of the block, as the low byte and the rest of each half of the pair. -/
theorem blockLandsAtFourAddresses : Obligations.BlockLandsAtFourAddresses := by
  intro s ch x a q hlife ha hok
  refine ⟨_, exec_duty q hlife (.setduty x ha), ?_⟩
  rw [hok, ← lowByte_eq_setWidth, ← highByte_eq_shift, ← lowByte_eq_setWidth, ← highByte_eq_shift]
  refine ⟨?_, regView_block (d := 1) (by decide), regView_block (d := 2) (by decide), regView_block (d := 3) (by decide)⟩
  have first := regView_block (t := s.trace) (via := s.busHandle) (a := a) (d := 0) (b := dutyBlock x) (by decide)
  rwa [BitVec.ofNat_eq_ofNat, BitVec.add_zero] at first

/-! ### The prescaler's writes (70_reset_and_hazards.md R149) -/

/-- The event is a successful write of the mode register with the sleep bit set. -/
def PutsToSleep (c : Params) (e : Event) : Prop :=
  ∃ (via : Option Handle) (v : Byte), e = .write via c.regMode1 v true ∧ v &&& c.m1Sleep = c.m1Sleep

/-- Every write of the prescaler in the list directly follows a write that puts the chip to sleep, `prev` being what stands
before the list. -/
def PrescalerAsleep (c : Params) : Option Event → List Event → Prop
  | _, [] => True
  | prev, e :: es =>
    (e.writesByte c.regPrescale = true → ∃ d ∈ prev, PutsToSleep c d) ∧ PrescalerAsleep c (some e) es

theorem PrescalerAsleep.of_no_write {c : Params} {es : List Event} (h : ∀ e ∈ es, e.writesByte c.regPrescale = false)
    (prev : Option Event) : PrescalerAsleep c prev es := by
  induction es generalizing prev with
  | nil => trivial
  | cons e es ih =>
    obtain ⟨he, hes⟩ := List.forall_mem_cons.mp h
    exact ⟨fun hw => absurd (he.symm.trans hw) (by decide), ih hes _⟩

theorem PrescalerAsleep.cut {c : Params} {pre post : List Event} {e : Event} {prev : Option Event}
    (h : PrescalerAsleep c prev (pre ++ e :: post)) : PrescalerAsleep c prev (pre ++ [e.asFailed]) := by
  induction pre generalizing prev with
  | nil => exact ⟨fun hw => h.1 (by rwa [Event.asFailed_writesByte] at hw), trivial⟩
  | cons d pre ih => exact ⟨h.1, ih h.2⟩

theorem PrescalerAsleep.of_append {c : Params} {before es : List Event} {prev : Option Event}
    (h : PrescalerAsleep c prev (before ++ es)) : ∃ prev', PrescalerAsleep c prev' es := by
  induction before generalizing prev with
  | nil => exact ⟨prev, h⟩
  | cons d before ih => exact ih h.2

/-- A write of the prescaler in such a list has an event before it, and that one puts the chip to sleep. -/
theorem PrescalerAsleep.before_write {c : Params} {before after : List Event} {e : Event}
    (h : PrescalerAsleep c none (before ++ e :: after)) (he : e.writesByte c.regPrescale = true) :
    ∃ before' d, before = before' ++ [d] ∧ PutsToSleep c d := by
  obtain rfl | ⟨before', d, rfl⟩ := before.eq_nil_or_concat
  · obtain ⟨d, hd, -⟩ := h.1 he
    cases hd
  · rw [List.concat_eq_append, List.append_assoc] at h
    obtain ⟨prev, _, hnext, -⟩ := h.of_append
    obtain ⟨d', hd, hsleep⟩ := hnext he
    obtain rfl := Option.mem_some_iff.mp hd
    exact ⟨before', d, List.concat_eq_append, hsleep⟩

theorem freqEvents_prescalerAsleep {c : Params} (hmode1 : c.regPrescale ≠ c.regMode1) (via : Option Handle) (m : Byte)
    (p : Int) (prev : Option Event) : PrescalerAsleep c prev (freqEvents c via m p) := by
  simp [freqEvents, PrescalerAsleep, Event.writesByte, PutsToSleep, hmode1.symm, set_and_mask]

theorem initEvents_prescalerAsleep {c : Params} (hmode1 : c.regPrescale ≠ c.regMode1)
    (hmode2 : c.regPrescale ≠ c.regMode2) (bus : BusNumber) (address : DevAddress) (h : Handle) (r m : Byte)
    (prev : Option Event) : PrescalerAsleep c prev (initEvents c bus address h r m) := by
  simp [initEvents, PrescalerAsleep, Event.writesByte, PutsToSleep, hmode1.symm, hmode2.symm, set_and_mask]

theorem Script.prescalerAsleep {s : State} {i : Instr} {script : List Event} (h : Script s i script)
    (hmode1 : s.cfg.regPrescale ≠ s.cfg.regMode1) (hmode2 : s.cfg.regPrescale ≠ s.cfg.regMode2) :
    PrescalerAsleep s.cfg none script := by
  cases h with
  | nothing => trivial
  | init => exact initEvents_prescalerAsleep hmode1 hmode2 _ _ _ _ _ _
  | setfreq => exact freqEvents_prescalerAsleep hmode1 _ _ _ _
  | duty => exact .of_no_write (by simp [Event.writesByte]) _
  | close => exact .of_no_write (by simp [Event.writesByte]) _

theorem Emitted.prescalerAsleep {c : Params} {script es : List Event} {r : Response} (h : Emitted script es r)
    (hscript : PrescalerAsleep c none script) : PrescalerAsleep c none es := by
  cases h with
  | whole => exact hscript
  | cut => exact hscript.cut
  | released e via => exact ⟨(PrescalerAsleep.cut (pre := []) hscript).1, nofun, trivial⟩

/-- Only INIT and SETFREQ write single bytes (20_memory.md R38, R39). -/
theorem Script.no_write {s : State} {i : Instr} {script : List Event} (h : Script s i script) :
    (i.cmd = .INIT ∨ i.cmd = .SETFREQ) ∨ ∀ a, ∀ e ∈ script, e.writesByte a = false := by
  cases h with
  | init => exact .inl (.inl rfl)
  | setfreq => exact .inl (.inr rfl)
  | nothing | duty | close => exact .inr (by simp [Event.writesByte])

/-- Settles O43: the property is one of the commands' sequences, and a cut keeps it. -/
theorem prescalerWrittenOnlyAsleep : Obligations.PrescalerWrittenOnlyAsleep := by
  intro s t i before after e q h hmode1 hmode2 htrace he
  rw [List.append_assoc] at htrace
  obtain ⟨script, r, hscript, hemitted, -⟩ := emitted_of_exec q h htrace
  refine ⟨hscript.no_write.resolve_right fun none_writes => ?_, ?_⟩
  · have quietly := hemitted.forall_mem (fun e he => by rwa [Event.asFailed_writesByte]) (none_writes s.cfg.regPrescale)
    rw [quietly e (by simp)] at he
    cases he
  · have asleep := hemitted.prescalerAsleep (hscript.prescalerAsleep hmode1 hmode2)
    obtain ⟨before', d, hbefore, via, v, rfl, hsleep⟩ := asleep.before_write he
    exact ⟨before', via, v, hbefore, hsleep⟩

/-! ### Delays and calls (70_reset_and_hazards.md R156) -/

/-- Answered OK at once is only CLOSE, in CLOSED (60_exceptions.md R139). -/
theorem Answers.close_of_ok {s : State} {i : Instr} (h : Answers s i .ok) : i.cmd = .CLOSE := by
  cases h with
  | refused h => revert h; cases s.life <;> cases i.cmd <;> simp [lifecycle]

/-- A command that answers OK with a delay to it has run a whole sequence, INIT's or SETFREQ's. -/
theorem Ends.whole_of_ok {s t : State} {i : Instr} (h : Ends s i t) (hrsp : t.rsp = some .ok) :
    (i.cmd = .INIT → ∃ c bus address v r m, t.trace = s.trace ++ initEvents c bus address v r m) ∧
    (i.cmd = .SETFREQ → ∃ c via m p, t.trace = s.trace ++ freqEvents c via m p) := by
  cases h with
  | answered h =>
    obtain rfl := Option.some.inj hrsp
    rw [h.close_of_ok]
    exact ⟨nofun, nofun⟩
  | init => exact ⟨fun _ => ⟨_, _, _, _, _, _, rfl⟩, nofun⟩
  | setfreq => exact ⟨nofun, fun _ => ⟨_, _, _, _, rfl⟩⟩
  | initFails _ _ _ hk => exact absurd (Option.some.inj hrsp) (errorAt_ne_ok hk)
  | setfreqFails _ _ _ hk => exact absurd (Option.some.inj hrsp) (errorAt_ne_ok hk)
  | duty _ hi => cases hi <;> exact ⟨nofun, nofun⟩
  | close => exact ⟨nofun, nofun⟩

/-- Only INIT and SETFREQ have a settle delay (R156). -/
theorem Script.no_delay {s : State} {i : Instr} {script : List Event} (h : Script s i script) :
    (i.cmd = .INIT ∨ i.cmd = .SETFREQ) ∨ ∀ e ∈ script, ∀ us, e ≠ .delay us := by
  cases h with
  | init => exact .inl (.inl rfl)
  | setfreq => exact .inl (.inr rfl)
  | nothing | duty | close => exact .inr (by simp)

theorem Event.asFailed_ne_delay {e : Event} (h : ∀ us, e ≠ .delay us) : ∀ us, e.asFailed ≠ .delay us := by
  intro us
  cases e with
  | delay us' => exact absurd rfl (h us')
  | _ => nofun

theorem delayUs_of_no_delay {es : List Event} (h : ∀ e ∈ es, ∀ us, e ≠ .delay us) : delayUs es = 0 := by
  induction es with
  | nil => rfl
  | cons e es ih =>
    obtain ⟨he, hes⟩ := List.forall_mem_cons.mp h
    cases e with
    | delay us => exact absurd rfl (he us)
    | _ => exact ih hes

/-- Settles O44: the counts of R79's and R86's lists, and no delay in the lists of the other commands. -/
theorem delaysAndCallsPerCommand : Obligations.DelaysAndCallsPerCommand := by
  intro s t i es q h htrace
  refine ⟨fun hinit hrsp => ?init, fun hsetfreq hrsp => ?setfreq, fun hinit hsetfreq => ?others⟩
  case init =>
    obtain ⟨c, bus, address, v, r, m, hwhole⟩ := ((ends_of_exec q h).whole_of_ok hrsp).1 hinit
    obtain rfl := List.append_cancel_left (htrace.symm.trans hwhole)
    exact ⟨rfl, by simp [initEvents], rfl⟩
  case setfreq =>
    obtain ⟨c, via, m, p, hwhole⟩ := ((ends_of_exec q h).whole_of_ok hrsp).2 hsetfreq
    obtain rfl := List.append_cancel_left (htrace.symm.trans hwhole)
    exact ⟨rfl, by simp [freqEvents], rfl⟩
  case others =>
    obtain ⟨script, r, hscript, hemitted, -⟩ := emitted_of_exec q h htrace
    have none_delays := hscript.no_delay.resolve_left fun hi => hi.elim hinit hsetfreq
    have no_delay := hemitted.forall_mem (P := fun e => ∀ us, e ≠ .delay us) (fun _ => Event.asFailed_ne_delay) none_delays
    exact ⟨delayUs_of_no_delay no_delay, List.count_eq_zero.mpr fun hmem => no_delay _ hmem 500 rfl⟩

end Sys2Proof.Machine
end

section
/-! SUPPORT. What a whole command leaves, read off the states it can end in (`Ends`): the response, and by command the
registers it may have written (10_state.md R13; 60_exceptions.md R127). -/

namespace Sys2Proof.Machine

theorem initFailed_beside (s : State) (bus : BusNumber) (address : DevAddress) (k : Nat) :
    (initFailed s bus address k).cfg = s.cfg ∧ (initFailed s bus address k).hostIn = s.hostIn ∧
      (initFailed s bus address k).responses = s.responses := by
  rw [initFailed]
  split_ifs <;> exact ⟨rfl, rfl, rfl⟩

/-- A command touches neither the parameters nor the host's side, and ends quiet with a response pending. -/
theorem Ends.frame {s t : State} {i : Instr} (h : Ends s i t) (q : Quiet s) :
    t.cfg = s.cfg ∧ t.hostIn = s.hostIn ∧ t.responses = s.responses ∧ Quiet { t with rsp := none } := by
  cases h with
  | answered => exact ⟨rfl, rfl, rfl, { q with rsp := rfl }⟩
  | initFails bus address _ =>
    obtain ⟨hcfg, hin, hresp⟩ := initFailed_beside s bus address _
    exact ⟨hcfg, hin, hresp, quiet_finish _ _⟩
  | init | setfreq | setfreqFails | duty | close => exact ⟨rfl, rfl, rfl, quiet_finish _ _⟩

/-! ### Which command writes which register (10_state.md R13) -/

theorem WritesDuty.cmd {s : State} {i : Instr} {a : RegAddr} {x : Rat} (h : WritesDuty s i a x) :
    i.cmd = .SETDUTY ∨ i.cmd = .SETPW := by
  cases h
  · exact .inl rfl
  · exact .inr rfl

theorem Ends.operands_eq {s t : State} {i : Instr} (h : Ends s i t) (hi : i.cmd ≠ .INIT) :
    t.busNumber = s.busNumber ∧ t.devAddress = s.devAddress := by
  cases h with
  | init | initFails => exact absurd rfl hi
  | answered | setfreq | setfreqFails | duty | close => exact ⟨rfl, rfl⟩

theorem Ends.frequency_eq {s t : State} {i : Instr} (h : Ends s i t) (hinit : i.cmd ≠ .INIT) (hi : i.cmd ≠ .SETFREQ) :
    t.frequencyHz = s.frequencyHz ∧ t.pulseWidthUs = s.pulseWidthUs := by
  cases h with
  | init | initFails => exact absurd rfl hinit
  | setfreq => exact absurd rfl hi
  | answered | setfreqFails | duty | close => exact ⟨rfl, rfl⟩

theorem Ends.life_eq {s t : State} {i : Instr} (h : Ends s i t) (hinit : i.cmd ≠ .INIT) (hi : i.cmd ≠ .CLOSE) :
    t.life = s.life ∧ t.busHandle = s.busHandle := by
  cases h with
  | init | initFails => exact absurd rfl hinit
  | close => exact absurd rfl hi
  | answered => exact ⟨rfl, rfl⟩
  | setfreq _ hlife | setfreqFails _ hlife | duty hlife => exact ⟨hlife.symm, rfl⟩

theorem Ends.getfreq_eq {s t : State} (h : Ends s .getfreq t) : t.trace = s.trace ∧ t.oracle = s.oracle := by
  cases h with
  | answered => exact ⟨rfl, rfl⟩
  | duty _ hi => cases hi

/-- Settles O40, register by register. -/
theorem commandFrame : Obligations.CommandFrame := by
  intro s t i q h
  have ends := ends_of_exec q h
  obtain ⟨hcfg, hin, hresp, -⟩ := ends.frame q
  refine ⟨hcfg, hin, hresp, ends.operands_eq, ends.frequency_eq, ends.life_eq, fun hi => ?_⟩
  cases i with
  | getfreq => exact ends.getfreq_eq
  | _ => cases hi

/-! ### The response -/

/-- An error that a failed call raises. -/
def Response.FromBus (r : Response) : Prop := r = .busOpenError ∨ ∃ a k, r = .registerIOError a k

theorem fromBus_error {e : Event} (h : e.canFail = true) : e.error.FromBus := by
  cases e with
  | busOpen => exact .inl rfl
  | read _ a | write _ a | block _ a => exact .inr ⟨a, _, rfl⟩
  | delay | busClose => cases h

theorem fromBus_errorAt {es : List Event} {k : Nat} (hk : k < callCount es) : (errorAt es k).FromBus := by
  obtain ⟨e, -, hcall, herror⟩ := errorAt_eq_error hk
  rw [herror]
  exact fromBus_error hcall

/-- A value is answered by GETFREQ only, and is the stored frequency (42_frequency.md R90). -/
theorem Answers.of_value {s : State} {i : Instr} {f : Rat} (h : Answers s i (.okValue f)) :
    i.cmd = .GETFREQ ∧ f = s.readFrequencyHz := by
  cases h with
  | refused h => revert h; cases s.life <;> cases i.cmd <;> simp [lifecycle]
  | value => exact ⟨rfl, rfl⟩

theorem Response.FromBus.ne_value {r : Response} (h : r.FromBus) (f : Rat) : r ≠ .okValue f := by
  obtain rfl | ⟨a, k, rfl⟩ := h <;> nofun

theorem blockAnswer_ne_value (a : RegAddr) (ok : Bool) (f : Rat) : blockAnswer a ok ≠ .okValue f := by
  cases ok <;> nofun

theorem Ends.of_value {s t : State} {i : Instr} {f : Rat} (h : Ends s i t) (hrsp : t.rsp = some (.okValue f)) :
    i.cmd = .GETFREQ ∧ f = s.readFrequencyHz := by
  cases h with
  | answered h =>
    obtain rfl := Option.some.inj hrsp
    exact h.of_value
  | init | setfreq => cases hrsp
  | initFails _ _ _ hk | setfreqFails _ _ _ hk =>
    exact absurd (Option.some.inj hrsp) ((fromBus_errorAt hk).ne_value f)
  | duty | close => exact absurd (Option.some.inj hrsp) (blockAnswer_ne_value _ _ f)

/-- Settles O37. -/
theorem everyCommandAnswersOnce : Obligations.EveryCommandAnswersOnce := by
  intro s i q
  obtain ⟨t, h, ends⟩ := exists_exec_ends q i
  obtain ⟨-, -, hresp, quiet⟩ := ends.frame q
  obtain ⟨script, es, r, hscript, hemitted, htrace, hrsp⟩ := ends.emitted
  refine ⟨t, r, es, h, quiet, hrsp, hresp, htrace, hemitted.length_le.trans hscript.length_le, ?_⟩
  rintro f rfl
  obtain ⟨hcmd, hf⟩ := ends.of_value hrsp
  refine ⟨hcmd, fun g hg => ?_⟩
  rw [hf, State.readFrequencyHz, hg]
  rfl

/-! ### The state after an error -/

/-- The error of a call through the handle is RegisterIOError. -/
theorem error_of_through {e : Event} {via : Option Handle} (hcall : e.canFail = true) (h : e.through via = true) :
    ∃ a k, e.error = .registerIOError a k := by
  cases e with
  | busOpen => cases h
  | read _ a | write _ a | block _ a => exact ⟨a, _, rfl⟩
  | delay | busClose => cases hcall

theorem errorAt_ne_busOpenError {es : List Event} {k : Nat} {via : Option Handle} (hk : k < callCount es)
    (h : ∀ e ∈ es, e.through via = true) : errorAt es k ≠ .busOpenError := by
  obtain ⟨e, hmem, hcall, herror⟩ := errorAt_eq_error hk
  obtain ⟨a, op, hreg⟩ := error_of_through hcall (h e hmem)
  rw [herror, hreg]
  nofun

/-- INIT answers BusOpenError only where its first call fails. -/
theorem initEvents_errorAt_ne_busOpenError {s : State} {bus : BusNumber} {address : DevAddress} {k : Nat} (hk : k < 11)
    (hk0 : k ≠ 0) : errorAt (initEventsOf s bus address) k ≠ .busOpenError := by
  obtain ⟨j, rfl⟩ := Nat.exists_eq_succ_of_ne_zero hk0
  rw [initEventsOf, initEvents_eq, errorAt_cons_succ rfl]
  refine errorAt_ne_busOpenError (via := some (s.oracle.peek 0).handle) (show j < 10 by omega) ?_
  simp [wakeEvents, freqEvents, Event.through]

theorem freqEvents_errorAt_ne_busOpenError {c : Params} {via : Option Handle} {m : Byte} {p : Int} {k : Nat} (hk : k < 5) :
    errorAt (freqEvents c via m p) k ≠ .busOpenError :=
  errorAt_ne_busOpenError hk (freqEvents_through c via m p)

theorem blockAnswer_ne_busOpenError (a : RegAddr) (ok : Bool) : blockAnswer a ok ≠ .busOpenError := by
  cases ok <;> nofun

/-- What is answered at once is no error of the bus. -/
theorem Answers.not_fromBus {s : State} {i : Instr} {r : Response} (h : Answers s i r) : ¬ r.FromBus := by
  rintro (rfl | ⟨a, k, rfl⟩) <;> cases h with
  | refused h => revert h; cases s.life <;> cases i.cmd <;> simp [lifecycle]

/-- BusOpenError comes from INIT, whose first call failed. -/
theorem Ends.of_busOpenError {s t : State} {i : Instr} (h : Ends s i t) (hrsp : t.rsp = some .busOpenError) :
    i.cmd = .INIT ∧ s.life = .UNOPENED ∧ t.life = .FAILED ∧ t.busHandle = s.busHandle ∧
      t.busNumber ≠ none ∧ t.devAddress ≠ none := by
  cases h with
  | answered h => exact absurd (.inl (Option.some.inj hrsp)) h.not_fromBus
  | init | setfreq => cases hrsp
  | @initFails bus address hlife k hk =>
    obtain rfl : k = 0 := by_contra fun hk0 => initEvents_errorAt_ne_busOpenError hk hk0 (Option.some.inj hrsp)
    exact ⟨rfl, hlife, rfl, rfl, nofun, nofun⟩
  | setfreqFails _ _ _ hk => exact absurd (Option.some.inj hrsp) (freqEvents_errorAt_ne_busOpenError hk)
  | duty | close => exact absurd (Option.some.inj hrsp) (blockAnswer_ne_busOpenError _ _)

/-- RegisterIOError, by command. -/
theorem Ends.of_registerIOError {s t : State} {i : Instr} {a : RegAddr} {k : OpKind} (h : Ends s i t)
    (hrsp : t.rsp = some (.registerIOError a k)) :
    (i.cmd = .INIT → t.life = .FAILED) ∧ (i.cmd = .CLOSE → t.life = .CLOSED ∧ t.busHandle = none) ∧
      (i.cmd ≠ .INIT → i.cmd ≠ .CLOSE → t.life = .READY ∧ t.busHandle = s.busHandle) ∧
      (i.cmd ≠ .INIT → t.frequencyHz = s.frequencyHz ∧ t.pulseWidthUs = s.pulseWidthUs) := by
  cases h with
  | answered h => exact absurd (.inr ⟨a, k, Option.some.inj hrsp⟩) h.not_fromBus
  | init | setfreq => cases hrsp
  | initFails => exact ⟨fun _ => rfl, nofun, fun h => absurd rfl h, fun h => absurd rfl h⟩
  | setfreqFails => exact ⟨nofun, nofun, fun _ _ => ⟨rfl, rfl⟩, fun _ => ⟨rfl, rfl⟩⟩
  | duty _ hi =>
    have hcmd := hi.cmd
    exact ⟨fun h => by simp [h] at hcmd, fun h => by simp [h] at hcmd, fun _ _ => ⟨rfl, rfl⟩, fun _ => ⟨rfl, rfl⟩⟩
  | close => exact ⟨nofun, fun _ => ⟨rfl, rfl⟩, fun _ h => absurd rfl h, fun _ => ⟨rfl, rfl⟩⟩

/-- Every other error is one answered at once. -/
theorem Ends.of_other_error {s t : State} {i : Instr} {r : Response} (h : Ends s i t) (hrsp : t.rsp = some r)
    (hok : r ≠ .ok) (hbus : ¬ r.FromBus) : t = { s with rsp := some r } := by
  have answer (a : RegAddr) (ok : Bool) : blockAnswer a ok = .ok ∨ (blockAnswer a ok).FromBus := by
    cases ok
    · exact .inr (.inr ⟨a, _, rfl⟩)
    · exact .inl rfl
  cases h with
  | answered =>
    obtain rfl := Option.some.inj hrsp
    rfl
  | init | setfreq => exact absurd (Option.some.inj hrsp).symm hok
  | initFails _ _ _ hk | setfreqFails _ _ _ hk => exact absurd (Option.some.inj hrsp ▸ fromBus_errorAt hk) hbus
  | duty | close => exact absurd (Option.some.inj hrsp ▸ answer _ _) (not_or.mpr ⟨hok, hbus⟩)

/-- Settles O38; that INIT began without a handle is the invariant's. -/
theorem stateAfterError : Obligations.StateAfterError := by
  intro s t i r inv haccepts h hrsp
  have q := inv.quiet haccepts
  have ends := ends_of_exec q h
  refine ⟨?busOpen, ?registerIO, fun hr => ?other⟩
  case busOpen =>
    rintro rfl
    obtain ⟨hcmd, hunopened, hfailed, hhandle, hbus, hdev⟩ := ends.of_busOpenError hrsp
    exact ⟨hcmd, hfailed, hhandle.trans (inv.noHandle hunopened (.inl q.phase)), hbus, hdev⟩
  case registerIO =>
    rintro a k rfl
    exact ends.of_registerIOError hrsp
  case other =>
    refine ends.of_other_error hrsp ?_ ?_
    · rintro rfl
      simp at hr
    · rintro (rfl | ⟨a, k, rfl⟩) <;> simp at hr

end Sys2Proof.Machine
end

section
/-! SUPPORT. A command gone through step by step while a reset counts down (log 1, log 5): no sequencer step looks at the
host's inputs, so stepping is the sequencer's run with the count beside it. -/

namespace Sys2Proof.Machine

/-! ### The sequencer does not look at the host's inputs -/

/-- The state with other inputs to come. -/
def State.withInputs (s : State) (ins : List HostInput) : State := { s with hostIn := ins }

/-- An operation that does not look at the host's inputs and does not change them. -/
def IgnoresInputs (f : State → State) : Prop := ∀ s ins, f (s.withInputs ins) = (f s).withInputs ins

theorem raise_withInputs (s : State) (ins : List HostInput) (e : Response) :
    raise (s.withInputs ins) e = (raise s e).withInputs ins := by
  cases hinit : s.phase.inInit with
  | true => rw [raise_inInit s e hinit, raise_inInit (s.withInputs ins) e hinit]; rfl
  | false =>
    by_cases hX1 : s.phase = .X1
    · rw [raise_X1 s e hX1, raise_X1 (s.withInputs ins) e hX1]; rfl
    · rw [raise_other s e hinit hX1, raise_other (s.withInputs ins) e hinit hX1]; rfl

section Steps
variable {after done : State → State} (s : State) (ins : List HostInput)

theorem openStep_withInputs : openStep (s.withInputs ins) = (openStep s).withInputs ins := by
  cases ha : s.answer.ok
  · rw [openStep_fail s ha, openStep_fail (s.withInputs ins) ha]
    exact raise_withInputs (s.draw.emit (.busOpen s.readBusNumber s.readDevAddress none)) ins _
  · rw [openStep_ok s ha, openStep_ok (s.withInputs ins) ha]; rfl

theorem writeStep_withInputs (a : RegAddr) (v : Byte) (hafter : IgnoresInputs after) :
    writeStep (s.withInputs ins) a v after = (writeStep s a v after).withInputs ins := by
  cases ha : s.answer.ok
  · rw [writeStep_fail s a v after ha, writeStep_fail (s.withInputs ins) a v after ha]
    exact raise_withInputs (s.draw.emit (.write s.busHandle a v false)) ins _
  · rw [writeStep_ok s a v after ha, writeStep_ok (s.withInputs ins) a v after ha]
    exact hafter (s.draw.emit (.write s.busHandle a v true)) ins

theorem readModeStep_withInputs (next : Phase) :
    readModeStep (s.withInputs ins) next = (readModeStep s next).withInputs ins := by
  cases ha : s.answer.ok
  · rw [readModeStep_fail s next ha, readModeStep_fail (s.withInputs ins) next ha]
    exact raise_withInputs (s.draw.emit (.read s.busHandle s.cfg.regMode1 none)) ins _
  · rw [readModeStep_ok s next ha, readModeStep_ok (s.withInputs ins) next ha]; rfl

theorem delayStep_withInputs (hafter : IgnoresInputs after) :
    delayStep (s.withInputs ins) after = (delayStep s after).withInputs ins := by
  cases ht : s.settleTimer with
  | none => rw [delayStep_start s after ht, delayStep_start (s.withInputs ins) after ht]; rfl
  | some n =>
    rw [delayStep_end s after n ht, delayStep_end (s.withInputs ins) after n ht]
    exact hafter { s with settleTimer := none } ins

theorem dutyStep_withInputs (hdone : IgnoresInputs done) :
    dutyStep done (s.withInputs ins) = (dutyStep done s).withInputs ins := by
  cases ha : s.answer.ok
  · rw [dutyStep_fail s done ha, dutyStep_fail (s.withInputs ins) done ha]
    exact raise_withInputs (s.draw.emit (.block s.busHandle s.readTarget (blockOf s.readOn s.readOff) false)) ins _
  · rw [dutyStep_ok s done ha, dutyStep_ok (s.withInputs ins) done ha]
    exact hdone (s.draw.emit (.block s.busHandle s.readTarget (blockOf s.readOn s.readOff) true)).clearDuty ins

theorem freqStep_withInputs (wrap : FreqStep → Phase) (hdone : IgnoresInputs done) (f : FreqStep) :
    freqStep wrap done f (s.withInputs ins) = (freqStep wrap done f s).withInputs ins := by
  cases f with
  | F1 => exact readModeStep_withInputs s ins _
  | F2 => exact writeStep_withInputs s ins _ _ fun _ _ => rfl
  | F3 => exact writeStep_withInputs s ins _ _ fun _ _ => rfl
  | F4 => exact writeStep_withInputs s ins _ _ fun _ _ => rfl
  | F5 => exact delayStep_withInputs s ins fun _ _ => rfl
  | F6 => exact writeStep_withInputs s ins _ _ fun _ _ => rfl
  | F7 => exact hdone (retuned s s.readPrescale).clearFreq ins

end Steps

theorem ignoresInputs_seqStep : IgnoresInputs seqStep := by
  intro s ins
  cases hp : s.phase with
  | IDLE => rw [seqStep_IDLE hp, seqStep_IDLE (s := s.withInputs ins) hp]
  | I1 => rw [seqStep_I1 hp, seqStep_I1 (s := s.withInputs ins) hp]; exact openStep_withInputs s ins
  | I2 => rw [seqStep_I2 hp, seqStep_I2 (s := s.withInputs ins) hp]; exact writeStep_withInputs s ins _ _ fun _ _ => rfl
  | I3 => rw [seqStep_I3 hp, seqStep_I3 (s := s.withInputs ins) hp]; exact writeStep_withInputs s ins _ _ fun _ _ => rfl
  | I4 => rw [seqStep_I4 hp, seqStep_I4 (s := s.withInputs ins) hp]; exact delayStep_withInputs s ins fun _ _ => rfl
  | I5read => rw [seqStep_I5read hp, seqStep_I5read (s := s.withInputs ins) hp]; exact readModeStep_withInputs s ins _
  | I5write =>
    rw [seqStep_I5write hp, seqStep_I5write (s := s.withInputs ins) hp]
    exact writeStep_withInputs s ins _ _ fun _ _ => rfl
  | I6 => rw [seqStep_I6 hp, seqStep_I6 (s := s.withInputs ins) hp]; exact delayStep_withInputs s ins fun _ _ => rfl
  | I7 f =>
    rw [seqStep_I7 f hp, seqStep_I7 (s := s.withInputs ins) f hp]
    exact freqStep_withInputs s ins _ (fun _ _ => rfl) f
  | I8 => rw [seqStep_I8 hp, seqStep_I8 (s := s.withInputs ins) hp]; exact dutyStep_withInputs s ins fun _ _ => rfl
  | F f =>
    rw [seqStep_F f hp, seqStep_F (s := s.withInputs ins) f hp]
    exact freqStep_withInputs s ins _ (fun _ _ => rfl) f
  | D1 => rw [seqStep_D1 hp, seqStep_D1 (s := s.withInputs ins) hp]; exact dutyStep_withInputs s ins fun _ _ => rfl
  | X1 => rw [seqStep_X1 hp, seqStep_X1 (s := s.withInputs ins) hp]; exact dutyStep_withInputs s ins fun _ _ => rfl
  | X2 => rw [seqStep_X2 hp, seqStep_X2 (s := s.withInputs ins) hp]; rfl

theorem ignoresInputs_beginCommand (i : Instr) : IgnoresInputs (beginCommand i) := by
  intro s ins
  have sameLife : (s.withInputs ins).life = s.life := rfl
  have sameCfg : (s.withInputs ins).cfg = s.cfg := rfl
  cases hrun : lifecycle s.life i.cmd with
  | some r => rw [beginCommand_of_lifecycle hrun, beginCommand_of_lifecycle (s := s.withInputs ins) hrun]; rfl
  | none =>
    cases i <;> rw [Instr.cmd] at hrun
    case init => rw [beginCommand, beginCommand, beginInit, beginInit, sameLife, hrun]; rfl
    case setfreq hz =>
      rw [beginCommand, beginCommand, beginSetfreq, beginSetfreq, sameLife, hrun]
      by_cases hzero : hz = 0
      · rw [if_pos hzero, if_pos hzero]; rfl
      · rw [if_neg hzero, if_neg hzero]; rfl
    case getfreq => rw [beginCommand, beginCommand, beginGetfreq, beginGetfreq, sameLife, hrun]; rfl
    case setduty ch x =>
      rw [beginCommand, beginCommand, beginSetduty, beginSetduty, sameLife, hrun, sameCfg]
      cases addrOf s.cfg ch <;> rfl
    case setpw ch w =>
      rw [beginCommand, beginCommand, beginSetpw, beginSetpw, sameLife, hrun, sameCfg]
      cases addrOf s.cfg ch <;> rfl
    case close => rw [beginCommand, beginCommand, beginClose, beginClose, sameLife, hrun]; rfl

/-! ### Steps of the machine while a reset counts down -/

theorem run_succ_of_step {M : Host.Core} {s t : M.State} (h : M.step s = .next t) (n : Nat) :
    M.run (n + 1) s = M.run n t := by
  rw [Host.Core.run, h]

theorem core_run_succ {s t : State} (h : step s = .next t) (n : Nat) :
    Sys2Proof.core.run (n + 1) s = Sys2Proof.core.run n t :=
  run_succ_of_step (M := Sys2Proof.core) h n

theorem portStep_waits {s : State} {n : Nat} {rest : List HostInput} (hidle : s.phase = .IDLE) (hrsp : s.rsp = none)
    (hin : s.hostIn = .reset n :: rest) : portStep s = .next s := by
  rw [portStep, if_pos hidle, hrsp, hin]

/-- A command whose word is next and behind whose word a reset stands is begun, and no more. -/
theorem step_begins {s : State} {w : CmdWord} {i : Instr} {n : Nat} {rest : List HostInput} (q : Quiet s)
    (hin : s.hostIn = .command w :: .reset n :: rest) (hdecode : decode w = .ok i) :
    step s = .next ((beginCommand i s).withInputs (.reset n :: rest)) := by
  rw [step_accepts q.phase q.rsp hin, acceptWord, hdecode]
  exact congrArg Host.Outcome.next (ignoresInputs_beginCommand i s (.reset n :: rest))

/-- A step of a command in progress counts the reset down by one. -/
theorem step_runs {s : State} {n : Nat} {rest : List HostInput} (hrun : s.phase ≠ .IDLE) :
    step (s.withInputs (.reset (n + 1) :: rest)) = .next ((seqStep s).withInputs (.reset n :: rest)) := by
  rw [step_of_reset_succ rfl, portStep_runs (by exact hrun)]
  exact congrArg Host.Outcome.next (ignoresInputs_seqStep s (.reset n :: rest))

/-- In IDLE a step at most delivers the response. -/
theorem step_idles {s : State} {n : Nat} {rest : List HostInput} (hidle : s.phase = .IDLE) :
    ∃ t : State, step (s.withInputs (.reset (n + 1) :: rest)) = .next (t.withInputs (.reset n :: rest)) ∧ t.phase = .IDLE ∧
      t.trace = s.trace := by
  rw [step_of_reset_succ rfl]
  cases hrsp : s.rsp with
  | some r => exact ⟨deliver s r, portStep_delivers hidle hrsp, hidle, rfl⟩
  | none => exact ⟨s, portStep_waits hidle hrsp rfl, hidle, rfl⟩

/-- A command that has not ended within `k` steps is stepped through them, the reset counted down by `k`. -/
theorem core_run_of_running {s : State} {rest : List HostInput} {k n : Nat} (hk : k ≤ n)
    (hrun : ∀ j < k, (seqSteps j s).phase ≠ .IDLE) :
    Sys2Proof.core.run k (s.withInputs (.reset n :: rest)) = .next ((seqSteps k s).withInputs (.reset (n - k) :: rest)) := by
  induction k generalizing s n with
  | zero => rfl
  | succ k ih =>
    cases n with
    | zero => omega
    | succ m =>
      rw [Nat.add_sub_add_right]
      exact (core_run_succ (step_runs (hrun 0 (Nat.succ_pos k))) k).trans
        (ih (by omega) fun j hj => hrun (j + 1) (by omega))

/-- The machine goes on until the reset falls, `n` steps on, and has emitted what the sequencer emits in `n` steps. -/
theorem core_run_to_reset (s : State) (rest : List HostInput) (n : Nat) :
    ∃ u : State, Sys2Proof.core.run (n + 1) (s.withInputs (.reset n :: rest)) = .next (applyReset (u.withInputs rest)) ∧
      u.trace = (seqSteps n s).trace := by
  induction n generalizing s with
  | zero => exact ⟨s, core_run_succ (step_of_reset rfl) 0, rfl⟩
  | succ n ih =>
    by_cases hidle : s.phase = .IDLE
    · obtain ⟨t, ht, tidle, ttrace⟩ := step_idles (n := n) (rest := rest) hidle
      obtain ⟨u, hu, utrace⟩ := ih t
      refine ⟨u, (core_run_succ ht _).trans hu, ?_⟩
      rw [utrace, seqSteps_of_IDLE tidle, ttrace, seqSteps_of_IDLE hidle]
    · obtain ⟨u, hu, utrace⟩ := ih (seqStep s)
      exact ⟨u, (core_run_succ (step_runs hidle) _).trans hu, utrace⟩

/-! ### The two statements -/

/-- What the sequencer emits in some steps is a first part of what it emits in all. -/
theorem seqSteps_trace_prefix (n : Nat) (s : State) : (seqSteps n s).trace <+: (seqSteps maxSeqSteps s).trace := by
  obtain hn | hn := Nat.le_total n maxSeqSteps
  · rw [← Nat.add_sub_cancel' hn, seqSteps_add]
    obtain ⟨es, hes⟩ := (seqSteps_grows (maxSeqSteps - n) (seqSteps n s)).trace
    exact ⟨es, hes.symm⟩
  · rw [seqSteps_of_ended hn (seqSteps_max_IDLE s)]

theorem eq_seqSteps_of_exec {s t : State} {i : Instr} (q : Quiet s) (h : exec i s = .next t) :
    t = seqSteps maxSeqSteps (beginCommand i s) := by
  rw [exec_eq_runCommand, runCommand_accepts _ q.accepts] at h
  exact (Host.Outcome.next.inj h).symm

/-- Settles O48: the steps before the reset are the sequencer's first ones. -/
theorem resetCutsACommandShort : Obligations.ResetCutsACommandShort := by
  intro s t w i n rest q hin hdecode h
  obtain ⟨u, hu, utrace⟩ := core_run_to_reset (beginCommand i s) rest n
  obtain ⟨es, hes⟩ := ((beginCommand_grows i s).trans (seqSteps_grows n _)).trace
  obtain ⟨all, hall⟩ := ((beginCommand_grows i s).trans (seqSteps_grows maxSeqSteps _)).trace
  have hprefix := seqSteps_trace_prefix n (beginCommand i s)
  rw [hes, hall, List.prefix_append_right_inj] at hprefix
  refine ⟨_, es, all, (core_run_succ (step_begins q hin hdecode) _).trans hu, rfl, rfl, rfl, rfl, rfl, utrace.trans hes, ?_,
    hprefix⟩
  rw [eq_seqSteps_of_exec q h, hall]

/-- Settles O49: up to the first step that ends the command, stepping is the sequencer's run. -/
theorem steppingReachesWholeCommand : Obligations.SteppingReachesWholeCommand := by
  intro s t w i n rest q hin hdecode hn h
  have ends : ∃ k, (seqSteps k (beginCommand i s)).phase = .IDLE := ⟨maxSeqSteps, seqSteps_max_IDLE _⟩
  have hk : Nat.find ends ≤ maxSeqSteps := Nat.find_min' ends (seqSteps_max_IDLE _)
  refine ⟨Nat.find ends, hk, ?_⟩
  have stepped := core_run_of_running (s := beginCommand i s) (rest := rest) (hk.trans hn) fun j hj => Nat.find_min ends hj
  have whole : t = seqSteps (Nat.find ends) (beginCommand i s) :=
    (eq_seqSteps_of_exec q h).trans (seqSteps_of_ended hk (Nat.find_spec ends))
  rw [whole]
  exact (core_run_succ (step_begins q hin hdecode) _).trans stepped

end Sys2Proof.Machine
end
